-- ==== Sys2Proof/Word.lean ====
section
/-! DEFINITION. The byte, the only word the block computes with (00_scope.md section 5.1: 8 bits, bit 7 the most
significant, never signed), and the frame. -/

namespace Sys2Proof

/-- One byte of a frame, a chunk or the accumulator. -/
abbrev Byte := BitVec 8

/-- A frame as it is written to the transport: its bytes, first on the wire first (20_memory.md R32). -/
abbrev Frame := List Byte

end Sys2Proof
end

