-- ==== Sys2Proof/Config.lean ====
section
/-! DEFINITION. What an implementation fixes (00_scope.md R6) and the free values. -/

namespace Sys2Proof

/-- The parameters of 00_scope.md R6 that the source does not fix. "A model takes each OPEN parameter as an argument":
they are a field of State that no step writes, so that every statement holds for all of them (log 4). -/
structure Config where
  /-- ACC_CAP, capacity of the accumulator in bytes; an integer >= 257 (D6). -/
  accCap : Nat
  /-- CHUNK_MAX, the largest chunk the transport delivers; any positive integer (D8). -/
  chunkMax : Nat
  /-- CLK_HZ, the clock frequency; positive (D3). -/
  clkHz : Nat
  /-- TXQ_DEPTH, frames the transmit queue holds; >= 1 (D14). -/
  txqDepth : Nat
  /-- RESEND_REENTRY: whether ResendRequested has an exit on a fresh data frame; default 0 (D18). -/
  resendReentry : Bool
  deriving DecidableEq, Repr

/-- The constraints of 00_scope.md R6 on the open parameters. -/
abbrev Config.wf (c : Config) : Prop :=
  257 ≤ c.accCap ∧ 1 ≤ c.chunkMax ∧ 1 ≤ c.clkHz ∧ 1 ≤ c.txqDepth

/-- How far ACC_CAP lies above its minimum 257: OPEN (log 4). -/
opaque Config.accCapExtra : Nat
/-- How far CHUNK_MAX lies above its minimum 1: OPEN (log 4). -/
opaque Config.chunkMaxExtra : Nat
/-- How far CLK_HZ lies above its minimum 1: OPEN (log 4). -/
opaque Config.clkHzExtra : Nat
/-- How far TXQ_DEPTH lies above its minimum 1: OPEN (log 4). -/
opaque Config.txqDepthExtra : Nat

/-- FREE VALUE: what the timer counter holds while the timer is stopped (10_state.md R22: "unspecified while
tmr_run = 0"), one value for each index of State.freeIdx (log 6). -/
opaque Config.freeTmrCnt : Nat → Nat

/-- The configuration the machine is reset with: every open parameter is an opaque number within its constraint,
RESEND_REENTRY has the default of 00_scope.md R6 (log 4). -/
def Config.atReset : Config :=
  { accCap := Config.accCapExtra + 257
    chunkMax := Config.chunkMaxExtra + 1
    clkHz := Config.clkHzExtra + 1
    txqDepth := Config.txqDepthExtra + 1
    resendReentry := false }

end Sys2Proof
end

