-- ==== Sys2Proof/Machine/Params.lean ====
section
/-! DEFINITION. The parameters of 00_scope.md R6 that the source fixes, and the numbers derived from them. -/

namespace Sys2Proof

/-- SOF_CMD, start byte of command-class frames (R6, 30_encoding.md R50). -/
def sofCmd : Byte := 0x50
/-- EOF_CMD, end byte of command-class frames. -/
def eofCmd : Byte := 0x5F
/-- SOF_DATA, the start marker of data-class frames. -/
def sofData : Byte := 0x40
/-- EOF_DATA, the end marker of data-class frames. -/
def eofData : Byte := 0x4F
/-- Second byte of an ack frame (30_encoding.md R52). -/
def ackCode : Byte := 0x02

/-- TICK_PERIOD_MS. -/
def tickPeriodMs : Nat := 1000
/-- TIMER_FIRST_DELAY_MS, equal to the period (D10). -/
def timerFirstDelayMs : Nat := 1000

/-- TICK_DIV, clock cycles per timer period (R6). -/
def Config.tickDiv (c : Config) : Nat := c.clkHz * tickPeriodMs / 1000

/-- Clock cycles from CONNECT to the first firing (R6, 42_handshake_timer.md R85). -/
def Config.firstDelayCycles (c : Config) : Nat := timerFirstDelayMs * c.clkHz / 1000

/-- The least `k` with `n ≤ 2^k` (`ceil(log2(n))` of 10_state.md R10), for `n ≥ 1`. -/
def ceilLog2 (n : Nat) : Nat := if n ≤ 1 then 0 else Nat.log2 (n - 1) + 1

/-- ACC_LEN_W = ceil(log2(ACC_CAP + 1)) (R6). -/
def Config.accLenW (c : Config) : Nat := ceilLog2 (c.accCap + 1)

/-- Width of tmr_cnt, ceil(log2(TICK_DIV)) (10_state.md R10). -/
def Config.tmrCntW (c : Config) : Nat := ceilLog2 c.tickDiv

end Sys2Proof
end

