-- ==== Sys2Proof/Syntax.lean ====
section
/-! DEFINITION. The operations of spec/opcode_table.json, one constructor for each of its 29 rows. -/

namespace Sys2Proof

/-- A wall-clock sample `t` (20_memory.md R48, 30_encoding.md R56): unsigned binary, taken over unchecked. -/
structure TimeSample where
  year : BitVec 16
  month : Byte
  day : Byte
  hour : Byte
  minute : Byte
  second : Byte
  deriving DecidableEq, Repr

/-- One operation of the block. -/
inductive Instr where
  -- the five events, codes 0 to 4 (30_encoding.md R62)
  /-- HRESET, 44_connection_control.md R120. -/
  | hreset
  /-- CONNECT, 44_connection_control.md R121, R123. -/
  | connect
  /-- DISCONNECT, 44_connection_control.md R122. -/
  | disconnect
  /-- TICK(t), 42_handshake_timer.md R87. -/
  | tick (t : TimeSample)
  /-- CHUNK(b), 43_protocol_engine.md R100. -/
  | chunk (b : List Byte)
  -- the four outgoing frames
  /-- TX.TIMESYNC(t), 42_handshake_timer.md R88. -/
  | txTimesync (t : TimeSample)
  /-- TX.DATAREQ, 43_protocol_engine.md R114. -/
  | txDatareq
  /-- TX.CHKREQ, 43_protocol_engine.md R114. -/
  | txChkreq
  /-- TX.RESEND, 43_protocol_engine.md R114. -/
  | txResend
  -- the incoming chunk classes (30_encoding.md R59)
  /-- RX.ACK, the chunk `50 02 <body> 5F`, 30_encoding.md R52. -/
  | rxAck (body : List Byte)
  /-- RX.DATA_START, the chunk `40 <rest>`, 43_protocol_engine.md R104. -/
  | rxDataStart (rest : List Byte)
  /-- RX.DATA_CONT, the chunk `<first> <rest>` with first byte other than 0x40, 43_protocol_engine.md R104. -/
  | rxDataCont (first : Byte) (rest : List Byte)
  /-- RX.CHKSUM, the chunk `40 <c> 4F`, 43_protocol_engine.md R108, R109. -/
  | rxChksum (c : Byte)
  /-- RX.UNREC, a non-empty chunk `b` (delivered to be recognised by no rule), 43_protocol_engine.md R103. -/
  | rxUnrec (b : List Byte)
  /-- RX.EMPTY, the empty chunk, 43_protocol_engine.md R100 (b). -/
  | rxEmpty
  -- the internal operations
  /-- ACC.RESET, 40_frame_accumulator.md R70. -/
  | accReset
  /-- ACC.APPEND(b), 40_frame_accumulator.md R71. -/
  | accAppend (b : List Byte)
  /-- ACC.ISTERM, 40_frame_accumulator.md R72. -/
  | accIsterm
  /-- ACC.PAYLOAD, 40_frame_accumulator.md R73. -/
  | accPayload
  /-- ACC.INTERIOR, 40_frame_accumulator.md R74. -/
  | accInterior
  /-- ACC.FEED(b), `b` non-empty, 40_frame_accumulator.md R75. -/
  | accFeed (b : List Byte)
  /-- CK.COMPUTE(f), 41_checksum_validator.md R80. -/
  | ckCompute (f : List Byte)
  /-- CK.VALIDATE(f, c), 41_checksum_validator.md R81. -/
  | ckValidate (f : List Byte) (c : Byte)
  /-- TMR.START, 42_handshake_timer.md R85. -/
  | tmrStart
  /-- TMR.STOP, 42_handshake_timer.md R90. -/
  | tmrStop
  /-- RDPL(i), 44_connection_control.md R125. -/
  | rdpl (i : Nat)
  -- the pseudo-operations of the script notation (30_encoding.md R64)
  /-- ACK, `CHUNK 50 02 5F`. -/
  | ack
  /-- DATA p0 p1 ..., `CHUNK 40 p0 p1 ... 4F`. -/
  | data (p : List Byte)
  /-- CKSUM cc, `CHUNK 40 cc 4F`. -/
  | cksum (c : Byte)
  deriving DecidableEq, Repr

end Sys2Proof
end

