-- ==== Sys2Proof/Machine/Operands.lean ====
section
/-! DEFINITION. The operand forms: what the block looks at in a chunk, the bytes of the frames it builds and
recognises, and the bytes of each operation that delivers a chunk. -/

namespace Sys2Proof

/-- The last byte of a chunk is `v` (00_scope.md section 5.1: `last(s)` is defined only when `len(s) >= 1`). -/
def lastIs (b : List Byte) (v : Byte) : Bool := b.getLast? == some v

/-- The first byte of a chunk is `v`. -/
def firstIs (b : List Byte) (v : Byte) : Bool := b.head? == some v

/-- `isAck(b)` of 30_encoding.md R52: length at least 3, bytes 0, 1 and last exactly `50`, `02`, `5F`. -/
def isAck (b : List Byte) : Bool :=
  decide (3 ≤ b.length) && firstIs b sofCmd && (b[1]? == some ackCode) && lastIs b eofCmd

/-- `isCk(b)` of 30_encoding.md R53: exactly 3 bytes, bytes 0 and 2 `40` and `4F`. -/
def isCk (b : List Byte) : Bool :=
  decide (b.length = 3) && firstIs b sofData && lastIs b eofData

/-- The received checksum of a checksum frame, `b[1]` (30_encoding.md R57). Used only where `isCk b`. -/
def ckByte (b : List Byte) : Byte := b.getD 1 0

/-- `f[1 .. len(f)-1)`: a frame buffer without its first and last byte, by position (30_encoding.md R58,
40_frame_accumulator.md R74); empty when the length is 0, 1 or 2. -/
def interior (f : List Byte) : List Byte := f.tail.dropLast

/-- A data-class frame `40 <p> 4F` (30_encoding.md R53, R54). -/
def dataFrame (p : List Byte) : Frame := sofData :: p ++ [eofData]

/-- TX.DATAREQ, `40 01 4F` (43_protocol_engine.md R114). -/
def dataReqFrame : Frame := [sofData, 0x01, eofData]
/-- TX.CHKREQ, `40 02 4F` (43_protocol_engine.md R114). -/
def chkReqFrame : Frame := [sofData, 0x02, eofData]
/-- TX.RESEND, `40 04 4F` (43_protocol_engine.md R114). -/
def resendFrame : Frame := [sofData, 0x04, eofData]

/-- `year[7:0]`, the low byte of the 4-digit year (30_encoding.md R56). -/
def yearLow (t : TimeSample) : Byte := t.year.extractLsb' 0 8

/-- `TIMESYNC(t)` of 42_handshake_timer.md R88, format F10 of 30_encoding.md R51. -/
def timesyncFrame (t : TimeSample) : Frame :=
  [sofCmd, 0x00, 0x07, yearLow t, t.month, t.day, t.hour, t.minute, t.second, eofCmd]

/-- The chunk that an operation delivers: CHUNK(b) itself, a chunk class of 30_encoding.md R59 with its bytes, or a
pseudo-operation with its expansion (30_encoding.md R64). The other operations deliver none. -/
def Instr.chunkBytes : Instr → Option (List Byte)
  | .chunk b => some b
  | .rxAck body => some (sofCmd :: ackCode :: body ++ [eofCmd])
  | .rxDataStart rest => some (sofData :: rest)
  | .rxDataCont first rest => some (first :: rest)
  | .rxChksum c => some [sofData, c, eofData]
  | .rxUnrec b => some b
  | .rxEmpty => some []
  | .ack => some [sofCmd, ackCode, eofCmd]
  | .data p => some (dataFrame p)
  | .cksum c => some [sofData, c, eofData]
  | .hreset | .connect | .disconnect | .tick _ => none
  | .txTimesync _ | .txDatareq | .txChkreq | .txResend => none
  | .accReset | .accAppend _ | .accIsterm | .accPayload | .accInterior | .accFeed _ => none
  | .ckCompute _ | .ckValidate _ _ | .tmrStart | .tmrStop | .rdpl _ => none

/-- What the environment may do to the block (44_connection_control.md R126: the five events and the payload read),
with the chunk classes and pseudo-operations, which are chunk deliveries. The outgoing frames and the internal
operations are performed by the block inside a step, never from outside (log 8). -/
def Instr.external : Instr → Bool
  | .hreset | .connect | .disconnect | .tick _ | .chunk _ => true
  | .rxAck _ | .rxDataStart _ | .rxDataCont _ _ | .rxChksum _ | .rxUnrec _ | .rxEmpty => true
  | .ack | .data _ | .cksum _ => true
  | .rdpl _ => true
  | .txTimesync _ | .txDatareq | .txChkreq | .txResend => false
  | .accReset | .accAppend _ | .accIsterm | .accPayload | .accInterior | .accFeed _ => false
  | .ckCompute _ | .ckValidate _ _ | .tmrStart | .tmrStop => false

/-- An operation within one connection: a chunk delivery, a tick or a payload read. -/
def Instr.inSession : Instr → Bool
  | .hreset | .connect | .disconnect => false
  | .tick _ | .chunk _ => true
  | .rxAck _ | .rxDataStart _ | .rxDataCont _ _ | .rxChksum _ | .rxUnrec _ | .rxEmpty => true
  | .ack | .data _ | .cksum _ => true
  | .rdpl _ => true
  | .txTimesync _ | .txDatareq | .txChkreq | .txResend => false
  | .accReset | .accAppend _ | .accIsterm | .accPayload | .accInterior | .accFeed _ => false
  | .ckCompute _ | .ckValidate _ _ | .tmrStart | .tmrStop => false

end Sys2Proof
end

