-- ==== Sys2Proof/WellFormed.lean ====
section
/-! DEFINITION. Which operands an operation may have. -/

namespace Sys2Proof

/-- The operand conditions of the rows: RX.DATA_CONT "means any first byte other than 0x40" (30_encoding.md R65),
RX.UNREC is "any non-empty chunk" (R103), ACC.FEED takes "a non-empty byte sequence" (40_frame_accumulator.md R75). -/
def Instr.operandsOk : Instr → Bool
  | .rxDataCont first _ => first != sofData
  | .rxUnrec b => !b.isEmpty
  | .accFeed b => !b.isEmpty
  | .hreset | .connect | .disconnect | .tick _ | .chunk _ => true
  | .txTimesync _ | .txDatareq | .txChkreq | .txResend => true
  | .rxAck _ | .rxDataStart _ | .rxChksum _ | .rxEmpty => true
  | .accReset | .accAppend _ | .accIsterm | .accPayload | .accInterior => true
  | .ckCompute _ | .ckValidate _ _ | .tmrStart | .tmrStop | .rdpl _ => true
  | .ack | .data _ | .cksum _ => true

/-- A delivered chunk has length `0 .. CHUNK_MAX` (43_protocol_engine.md R100, 00_scope.md R6). This bounds the
transport; "the event-level rules hold for every finite length", so no meaning tests it (log 26). -/
def Instr.chunkLenOk (c : Config) (i : Instr) : Bool :=
  match i.chunkBytes with
  | some b => decide (b.length ≤ c.chunkMax)
  | none => true

/-- An operation the transport and the host can present to a block of configuration `c`. -/
def Instr.wellFormed (c : Config) (i : Instr) : Bool := i.operandsOk && i.chunkLenOk c

end Sys2Proof
end

