-- ==== Sys2Proof/Decode.lean ====
section
/-! DEFINITION. The descriptor of an operation: the bytes that stand in State.inbox for it. The block fetches no
program and the event codes of 30_encoding.md R62 "are not on any wire", so the descriptor is the model's own (log 2):
its first byte is the operation's code (the event code of R62 for the five events, the row number of
spec/opcode_table.json for the others), then the row's wire pattern where it has one (R51 to R54), byte 0 first, then
the operands that the pattern does not carry. The decoder is total and rejects by name; the encoder follows it.
`tableReadings` reads the table's own numbers, `decodeTableWord` takes the first reading (log 3). -/

namespace Sys2Proof

/-- Why a byte string is no operation. -/
inductive DecodeError where
  /-- There is no first byte. -/
  | noCode
  /-- The first byte is the code of no row. -/
  | unassignedCode (code : Byte)
  /-- The bytes end before the operands do. -/
  | truncated
  /-- Bytes follow the last operand. -/
  | trailing
  /-- A fixed byte of the row's wire pattern is different. -/
  | pattern
  /-- A continuation byte is neither 0 (end) nor 1 (another element follows). -/
  | continuation (flag : Byte)
  /-- An operand the row excludes (WellFormed). -/
  | operand
  deriving DecidableEq, Repr

/-! ### Operands of variable length: each element after a byte 1, the end a byte 0 -/

/-- A byte sequence that ends the descriptor. -/
def decodeSeq : List Byte → Except DecodeError (List Byte)
  | [] => .error .truncated
  | [x] => if x = 0#8 then .ok [] else if x = 1#8 then .error .truncated else .error (.continuation x)
  | x :: b :: rest =>
    if x = 1#8 then
      match decodeSeq rest with
      | .ok bs => .ok (b :: bs)
      | .error e => .error e
    else if x = 0#8 then .error .trailing
    else .error (.continuation x)

/-- A number that ends the descriptor, one byte 1 for each unit. -/
def decodeCount : List Byte → Except DecodeError Nat
  | [] => .error .truncated
  | x :: rest =>
    if x = 1#8 then
      match decodeCount rest with
      | .ok n => .ok (n + 1)
      | .error e => .error e
    else if x = 0#8 then (if rest.isEmpty then .ok 0 else .error .trailing)
    else .error (.continuation x)

/-- The inverse of `decodeSeq`. -/
def encodeSeq : List Byte → List Byte
  | [] => [0#8]
  | b :: bs => 1#8 :: b :: encodeSeq bs

/-- The inverse of `decodeCount`. -/
def encodeCount : Nat → List Byte
  | 0 => [0#8]
  | n + 1 => 1#8 :: encodeCount n

/-! ### Operand forms -/

/-- No operand. -/
def decodeNone (i : Instr) : List Byte → Except DecodeError Instr
  | [] => .ok i
  | _ :: _ => .error .trailing

/-- A byte sequence. -/
def decodeBytes (mk : List Byte → Instr) (rest : List Byte) : Except DecodeError Instr :=
  match decodeSeq rest with
  | .ok bs => .ok (mk bs)
  | .error e => .error e

/-- A byte sequence of at least one byte. -/
def decodeBytesOne (mk : List Byte → Instr) (rest : List Byte) : Except DecodeError Instr :=
  match decodeSeq rest with
  | .ok [] => .error .operand
  | .ok (b :: bs) => .ok (mk (b :: bs))
  | .error e => .error e

/-- One byte. -/
def decodeByte (mk : Byte → Instr) : List Byte → Except DecodeError Instr
  | [] => .error .truncated
  | [c] => .ok (mk c)
  | _ :: _ :: _ => .error .trailing

/-- One byte and a byte sequence. -/
def decodeByteBytes (mk : Byte → List Byte → Instr) : List Byte → Except DecodeError Instr
  | [] => .error .truncated
  | c :: rest => decodeBytes (mk c) rest

/-- TICK's operand: year (high byte, low byte), month, day, hour, minute, second. -/
def decodeTick : List Byte → Except DecodeError Instr
  | [yh, yl, mo, d, h, mi, s] => .ok (.tick ⟨yh ++ yl, mo, d, h, mi, s⟩)
  | rest => if rest.length < 7 then .error .truncated else .error .trailing

/-- TX.TIMESYNC: the 10 bytes of format F10 (30_encoding.md R51), then the year's high byte, which the frame does not carry. -/
def decodeTimesync : List Byte → Except DecodeError Instr
  | [s0, s1, s2, yl, mo, d, h, mi, s, e, yh] =>
    if s0 = sofCmd ∧ s1 = 0x00 ∧ s2 = 0x07 ∧ e = eofCmd then .ok (.txTimesync ⟨yh ++ yl, mo, d, h, mi, s⟩)
    else .error .pattern
  | rest => if rest.length < 11 then .error .truncated else .error .trailing

/-- A frame of format F3 (30_encoding.md R53) whose middle byte is fixed. -/
def decodeF3Fixed (code : Byte) (i : Instr) : List Byte → Except DecodeError Instr
  | [s, c, e] => if s = sofData ∧ c = code ∧ e = eofData then .ok i else .error .pattern
  | rest => if rest.length < 3 then .error .truncated else .error .trailing

/-- RX.CHKSUM: format F3 with the checksum as its middle byte. -/
def decodeChksum : List Byte → Except DecodeError Instr
  | [s, c, e] => if s = sofData ∧ e = eofData then .ok (.rxChksum c) else .error .pattern
  | rest => if rest.length < 3 then .error .truncated else .error .trailing

/-- RX.ACK: the two leading bytes the row's pattern tests, then the body. -/
def decodeAck : List Byte → Except DecodeError Instr
  | s :: c :: rest => if s = sofCmd ∧ c = ackCode then decodeBytes .rxAck rest else .error .pattern
  | _ => .error .truncated

/-- RX.DATA_START: the leading start marker, then the rest of the chunk. -/
def decodeDataStart : List Byte → Except DecodeError Instr
  | s :: rest => if s = sofData then decodeBytes .rxDataStart rest else .error .pattern
  | [] => .error .truncated

/-- RX.DATA_CONT: a first byte other than the start marker, then the rest of the chunk. -/
def decodeDataCont : List Byte → Except DecodeError Instr
  | s :: rest => if s = sofData then .error .operand else decodeBytes (.rxDataCont s) rest
  | [] => .error .truncated

/-- RDPL's index. -/
def decodeIndex (rest : List Byte) : Except DecodeError Instr :=
  match decodeCount rest with
  | .ok n => .ok (.rdpl n)
  | .error e => .error e

/-- The operands of the operation with code `code`. -/
def decodeRow (code : Byte) (rest : List Byte) : Except DecodeError Instr :=
  match code.toNat with
  | 0 => decodeNone .hreset rest
  | 1 => decodeNone .connect rest
  | 2 => decodeNone .disconnect rest
  | 3 => decodeTick rest
  | 4 => decodeBytes .chunk rest
  | 5 => decodeTimesync rest
  | 6 => decodeF3Fixed 0x01 .txDatareq rest
  | 7 => decodeF3Fixed 0x02 .txChkreq rest
  | 8 => decodeF3Fixed 0x04 .txResend rest
  | 9 => decodeAck rest
  | 10 => decodeDataStart rest
  | 11 => decodeDataCont rest
  | 12 => decodeChksum rest
  | 13 => decodeBytesOne .rxUnrec rest
  | 14 => decodeNone .rxEmpty rest
  | 15 => decodeNone .accReset rest
  | 16 => decodeBytes .accAppend rest
  | 17 => decodeNone .accIsterm rest
  | 18 => decodeNone .accPayload rest
  | 19 => decodeNone .accInterior rest
  | 20 => decodeBytesOne .accFeed rest
  | 21 => decodeBytes .ckCompute rest
  | 22 => decodeByteBytes (fun c f => .ckValidate f c) rest
  | 23 => decodeNone .tmrStart rest
  | 24 => decodeNone .tmrStop rest
  | 25 => decodeIndex rest
  | 26 => decodeNone .ack rest
  | 27 => decodeBytes .data rest
  | 28 => decodeByte .cksum rest
  | _ => .error (.unassignedCode code)

/-- The operation that a descriptor stands for. -/
def decode : List Byte → Except DecodeError Instr
  | [] => .error .noCode
  | code :: rest => decodeRow code rest

/-! ### Encoding -/

/-- The code of each operation: the event code of 30_encoding.md R62, or the row number of the table. -/
def Instr.code : Instr → Byte
  | .hreset => 0
  | .connect => 1
  | .disconnect => 2
  | .tick _ => 3
  | .chunk _ => 4
  | .txTimesync _ => 5
  | .txDatareq => 6
  | .txChkreq => 7
  | .txResend => 8
  | .rxAck _ => 9
  | .rxDataStart _ => 10
  | .rxDataCont _ _ => 11
  | .rxChksum _ => 12
  | .rxUnrec _ => 13
  | .rxEmpty => 14
  | .accReset => 15
  | .accAppend _ => 16
  | .accIsterm => 17
  | .accPayload => 18
  | .accInterior => 19
  | .accFeed _ => 20
  | .ckCompute _ => 21
  | .ckValidate _ _ => 22
  | .tmrStart => 23
  | .tmrStop => 24
  | .rdpl _ => 25
  | .ack => 26
  | .data _ => 27
  | .cksum _ => 28

/-- `year[15:8]`. -/
def yearHigh (t : TimeSample) : Byte := t.year.extractLsb' 8 8

/-- The operand bytes of each operation, in the order `decodeRow` reads them. -/
def Instr.operandBytes : Instr → List Byte
  | .hreset | .connect | .disconnect | .rxEmpty => []
  | .accReset | .accIsterm | .accPayload | .accInterior | .tmrStart | .tmrStop | .ack => []
  | .tick t => [yearHigh t, yearLow t, t.month, t.day, t.hour, t.minute, t.second]
  | .txTimesync t => timesyncFrame t ++ [yearHigh t]
  | .txDatareq => dataReqFrame
  | .txChkreq => chkReqFrame
  | .txResend => resendFrame
  | .rxAck body => sofCmd :: ackCode :: encodeSeq body
  | .rxDataStart rest => sofData :: encodeSeq rest
  | .rxDataCont first rest => first :: encodeSeq rest
  | .rxChksum c => [sofData, c, eofData]
  | .chunk b | .rxUnrec b | .accAppend b | .accFeed b | .ckCompute b | .data b => encodeSeq b
  | .ckValidate f c => c :: encodeSeq f
  | .rdpl n => encodeCount n
  | .cksum c => [c]

/-- The descriptor of an operation. -/
def encode (i : Instr) : List Byte := i.code :: i.operandBytes

/-! ### The opcode table's own numbers -/

/-- One row of the table that has a match and a mask, as 30_encoding.md R65 says: an event's 3-bit code, or the pattern
of a frame or of a chunk's leading bytes as one number, byte 0 in the most significant byte. -/
structure TableRow where
  /-- Bits that `match` and `mask` cover. -/
  nbits : Nat
  mask : Nat
  value : Nat
  /-- The operation's code. -/
  code : Byte
  /-- Whether the number's bytes stand in the descriptor after the code (wire patterns) or are the code itself (events). -/
  wire : Bool
  /-- How many operand bytes the number does not carry follow, as zeros. -/
  pad : Nat
  deriving DecidableEq, Repr

/-- The rows, their `match` and `mask` and their order as spec/opcode_table.json has them: in it RX.DATA_CONT, whose
mask 00 matches every byte, is "tested after RX.DATA_START" (R65). -/
def tableRows : List TableRow :=
  [ ⟨3, 0x7, 0, 0, false, 0⟩,
    ⟨3, 0x7, 1, 1, false, 0⟩,
    ⟨3, 0x7, 2, 2, false, 0⟩,
    ⟨3, 0x7, 3, 3, false, 7⟩,
    ⟨3, 0x7, 4, 4, false, 1⟩,
    ⟨80, 0xFFFFFF000000000000FF, 0x5000070000000000005F, 5, true, 1⟩,
    ⟨24, 0xFFFFFF, 0x40014F, 6, true, 0⟩,
    ⟨24, 0xFFFFFF, 0x40024F, 7, true, 0⟩,
    ⟨24, 0xFFFFFF, 0x40044F, 8, true, 0⟩,
    ⟨16, 0xFFFF, 0x5002, 9, true, 1⟩,
    ⟨8, 0xFF, 0x40, 10, true, 1⟩,
    ⟨8, 0x00, 0x00, 11, true, 1⟩,
    ⟨24, 0xFF00FF, 0x40004F, 12, true, 0⟩ ]

/-- A row's width in whole bytes, as bits. -/
def TableRow.byteBits (r : TableRow) : Nat := (r.nbits + 7) / 8 * 8

/-- The number `w` of `nbits` bits matches the row: it has the row's width, or that width in whole bytes with the bits
above it zero, and agrees with `match` under `mask`. -/
def TableRow.matches (r : TableRow) (nbits w : Nat) : Bool :=
  (nbits == r.nbits || nbits == r.byteBits) && decide (w < 2 ^ r.nbits) && (w &&& r.mask) == r.value

/-- The lowest `n` bytes of `w`, the most significant first. -/
def bytesBE : Nat → Nat → List Byte
  | 0, _ => []
  | n + 1, w => BitVec.ofNat 8 (w >>> (8 * n)) :: bytesBE n w

/-- The descriptor of the row's operation with the operands of the number `w`. -/
def TableRow.descriptor (r : TableRow) (w : Nat) : List Byte :=
  r.code :: ((if r.wire then bytesBE (r.nbits / 8) w else []) ++ List.replicate r.pad 0)

/-- The descriptors of all rows that the number matches, in the order in which the rows are tested. -/
def tableDescriptors (nbits w : Nat) : List (List Byte) :=
  (tableRows.filter (fun r => r.matches nbits w)).map (fun r => r.descriptor w)

/-- The operations that the number stands for, row by row: the table's numbers do not tell an event from a chunk's first
byte, nor an outgoing frame from an incoming one. A first byte 40 is no operand of RX.DATA_CONT (R65). -/
def tableReadings (nbits w : Nat) : List Instr :=
  (tableDescriptors nbits w).filterMap (fun d => (decode d).toOption)

/-- The descriptor of the first row that the number matches (log 3). -/
def tableDescriptor (nbits w : Nat) : Option (List Byte) := (tableDescriptors nbits w).head?

/-- The operation the decoder reads from the table's number `w` of `nbits` bits, operands beyond them zero: the first of
its readings (log 3). -/
def decodeTableWord (nbits w : Nat) : Option Instr :=
  match tableDescriptor nbits w with
  | some d => (decode d).toOption
  | none => none

end Sys2Proof
end

