-- ==== Sys2Proof/Machine/State.lean ====
section
/-! DEFINITION. The state: the registers of 10_state.md R10, the hidden port-level state of R19, the records of what the
block emitted, and the inputs still to come. Plain data. -/

namespace Sys2Proof.Machine

/-- The protocol state, register `pstate` (10_state.md R12): "a five-constructor enumeration". -/
inductive PState where
  | awaitingAck
  | collectingData
  | awaitingChecksum
  | complete
  | resendRequested
  deriving DecidableEq, Repr

/-- A notification toward the host (20_memory.md R30, 60_exceptions.md R136): the only two. -/
inductive Notification where
  /-- ACKED: the handshake acknowledgment occurred. -/
  | acked
  /-- PAYLOAD(P): a frame was validated, with its payload bytes. -/
  | payload (p : List Byte)
  deriving DecidableEq, Repr

/-- One emission of a step: a frame on TX or a notification on EV (20_memory.md R40). -/
inductive Emission where
  | tx (f : Frame)
  | ev (n : Notification)
  deriving DecidableEq, Repr

/-- The four error conditions of 60_exceptions.md R130. They stop nothing and transfer no control (R138). -/
inductive Condition where
  /-- Code 1: external; reaches the block only as DISCONNECT (R131), so no step of the block raises it. -/
  | transportError
  /-- Code 2 (R132). -/
  | checksumMismatch
  /-- Code 3 (R133). -/
  | protocolDesync
  /-- Code 4 (R134). -/
  | accOverflow
  deriving DecidableEq, Repr

/-- The outcome of CK.VALIDATE (41_checksum_validator.md R81). -/
inductive Verdict where
  | matched
  | mismatched
  deriving DecidableEq, Repr

/-- What a value-returning operation returned (log 9). -/
inductive Result where
  /-- ACC.ISTERM. -/
  | flag (v : Bool)
  /-- ACC.PAYLOAD, ACC.INTERIOR. -/
  | bytes (b : List Byte)
  /-- CK.COMPUTE, RDPL. -/
  | byte (v : Byte)
  /-- CK.VALIDATE. -/
  | verdict (v : Verdict)
  deriving DecidableEq, Repr

/-- The input ports of one clock cycle (20_memory.md R44). -/
structure PortIn where
  /-- `rst`. -/
  rst : Bool
  /-- `conn_start`. -/
  connStart : Bool
  /-- `conn_stop`. -/
  connStop : Bool
  /-- `rx_data` and `rx_last` where `rx_valid = 1`; none where `rx_valid = 0`. -/
  rx : Option (Byte × Bool)
  /-- `tx_ready`. -/
  txReady : Bool
  /-- The six `rtc_*` inputs (R48). -/
  rtc : TimeSample
  /-- `pl_addr`. -/
  plAddr : Nat
  deriving DecidableEq, Repr

/-- The output ports of one clock cycle (20_memory.md R44). -/
structure PortOut where
  /-- `rx_ready`. -/
  rxReady : Bool
  /-- `tx_data` and `tx_last` where `tx_valid = 1`; none where `tx_valid = 0`, where the spec gives them no value. -/
  tx : Option (Byte × Bool)
  /-- `ev_ack`. -/
  evAck : Bool
  /-- `ev_payload`. -/
  evPayload : Bool
  /-- `pl_len`. -/
  plLen : Nat
  /-- `pl_data`. -/
  plData : Byte
  /-- `status`, the STATUS word of 10_state.md R17 as a number. -/
  status : Nat
  deriving DecidableEq, Repr

/-- One input to the machine: an operation, as its descriptor, or a clock cycle of port values (log 1). -/
inductive Input where
  | op (descriptor : List Byte)
  | cycle (p : PortIn)
  deriving DecidableEq, Repr

/-- The accumulator store ACC (20_memory.md R30, R31): index `i` holds the `i`-th byte appended since the last reset;
the list has exactly the `acc_len` valid bytes (10_state.md R15, log 21). -/
abbrev Memory := List Byte

/-- The state of the machine. -/
structure State where
  -- configuration, written by no step (log 4)
  cfg : Config
  -- the registers of 10_state.md R10
  /-- `conn`: a connection is active. -/
  conn : Bool
  /-- `pstate`. -/
  pstate : PState
  /-- `ack`: the acknowledgment flag. -/
  ack : Bool
  /-- `acc[0..acc_len)`, the frame buffer; `acc_len` is its length. -/
  acc : Memory
  /-- `tmr_run`: the handshake timer is scheduled. -/
  tmrRun : Bool
  /-- `tmr_cnt`: clock cycles left to the next firing (port level). -/
  tmrCnt : Nat
  /-- `flt_ovf`: sticky accumulator-overflow fault. -/
  fltOvf : Bool
  -- hidden port-level state (10_state.md R19, 20_memory.md R44 to R46)
  /-- The bytes of the chunk in progress on RX. -/
  rxBuf : List Byte
  /-- The rest of an abandoned chunk, or of one begun while `conn = 0`, is being discarded (R45). -/
  rxAbandon : Bool
  /-- The transmit queue, oldest frame first (R46). -/
  txq : List Frame
  /-- How many bytes of the oldest frame have been transferred (R46). -/
  txPos : Nat
  /-- A ready tick waits (R42). -/
  tickPending : Bool
  /-- The `ev_ack` pulse. -/
  evAck : Bool
  /-- The `ev_payload` pulse. -/
  evPayload : Bool
  -- records of what happened, no state of the block
  /-- tx_trace and ev_trace, merged in order of emission (20_memory.md R40, log 22). -/
  trace : List Emission
  /-- The conditions raised (60_exceptions.md R133, log 10). -/
  conds : List Condition
  /-- The values returned (log 9). -/
  results : List Result
  /-- What the output ports showed, cycle by cycle (log 19). -/
  outTrace : List PortOut
  -- the model's own
  /-- Index of the next free value (log 6). -/
  freeIdx : Nat
  /-- The inputs still to be processed, the next one first (log 1). -/
  inbox : List Input
  deriving DecidableEq, Repr

/-- No step of this machine ends in a fault: "Nothing in this block is an illegal encoding that traps"
(30_encoding.md R61), and the four conditions of 60_exceptions.md R130 are register writes after which the block goes
on (R138). So no reason exists, and that no step faults is a fact of the type: safe. -/
inductive Fault where
  deriving DecidableEq, Repr

/-- Why a step is refused. -/
inductive Refusal where
  /-- An operation without a meaning yet; raised by `exec`'s arm of that operation; safe (the model stops). -/
  | notModelled (mnemonic : String)
  /-- The next input's bytes are the descriptor of no operation; raised by `step`; safe (the model stops). No input of
  the real block is of this kind: every chunk is a legal operand of CHUNK (log 2). -/
  | malformed (e : DecodeError)
  deriving DecidableEq, Repr

/-- The machine right after HRESET at power-up (10_state.md R22, 70_reset_and_hazards.md R150): no connection, no
record of the past, no input yet. `tmrCnt`, the pulses and the model's own fields: log 5; `cfg`: log 4. -/
def State.reset : State :=
  { cfg := Config.atReset
    conn := false
    pstate := .awaitingAck
    ack := false
    acc := []
    tmrRun := false
    tmrCnt := 0
    fltOvf := false
    rxBuf := []
    rxAbandon := false
    txq := []
    txPos := 0
    tickPending := false
    evAck := false
    evPayload := false
    trace := []
    conds := []
    results := []
    outTrace := []
    freeIdx := 0
    inbox := [] }

end Sys2Proof.Machine
end

