-- ==== Sys2Proof/Machine/Ops.lean ====
section
/-! DEFINITION. The named operations on the state that the meanings share. -/

namespace Sys2Proof.Machine

/-! ### The accumulator store (20_memory.md R31) -/

/-- `MemRead(i, 1) = acc[i]` for `0 <= i < acc_len`; no other index is ever read (R31). -/
def Memory.read (m : Memory) (i : Nat) : Option Byte := m[i]?

/-- `MemWrite(acc_len, 1, v)` and `acc_len <- acc_len + 1`, "the only form of write" (R31). -/
def Memory.push (m : Memory) (v : Byte) : Memory := m ++ [v]

/-- ACC.APPEND's loop: the bytes in chunk order (40_frame_accumulator.md R71). -/
def Memory.append (m : Memory) (b : List Byte) : Memory := b.foldl Memory.push m

/-- The store as (address, byte) pairs, addresses rising (log 21). -/
def Memory.cells (m : Memory) : List Host.Cell := m.zipIdx.map (fun p => (p.2, p.1))

/-- The canonical form: `acc_len <= ACC_CAP`, no byte at or above an index that does not exist (R31). -/
abbrev Memory.wf (c : Config) (m : Memory) : Prop := m.length ≤ c.accCap

/-- `acc_len`. -/
def State.accLen (s : State) : Nat := s.acc.length

/-! ### Records -/

/-- `emit TX(f)`: the frame is appended to tx_trace and enters the transmit queue (20_memory.md R40, R46). -/
def State.emitTx (f : Frame) (s : State) : State :=
  { s with trace := s.trace ++ [.tx f], txq := s.txq ++ [f] }

/-- `emit EV(ACKED)`, with its pulse (20_memory.md R44). -/
def State.emitAcked (s : State) : State :=
  { s with trace := s.trace ++ [.ev .acked], evAck := true }

/-- `emit EV(PAYLOAD(p))`, with its pulse (20_memory.md R44). -/
def State.emitPayload (p : List Byte) (s : State) : State :=
  { s with trace := s.trace ++ [.ev (.payload p)], evPayload := true }

/-- `raise <condition>`: "It does not transfer control anywhere" (00_scope.md section 5.2); nothing is saved, no mode
is switched, nothing is returned from (60_exceptions.md R138, R139). Its state change is written where it is raised;
here stands only its label (R133, log 10). -/
def State.raise (c : Condition) (s : State) : State := { s with conds := s.conds ++ [c] }

/-- The value of a value-returning operation; no register changes (20_memory.md R37, log 9). -/
def State.record (r : Result) (s : State) : State := { s with results := s.results ++ [r] }

/-- tx_trace. -/
def State.txTrace (s : State) : List Frame :=
  s.trace.filterMap (fun e => match e with | .tx f => some f | .ev _ => none)

/-- ev_trace. -/
def State.evTrace (s : State) : List Notification :=
  s.trace.filterMap (fun e => match e with | .tx _ => none | .ev n => some n)

/-! ### Registers -/

/-- ACC.RESET: `acc_len <- 0` (40_frame_accumulator.md R70). -/
def State.clearAcc (s : State) : State := { s with acc := [] }

/-- The value of tmr_cnt while the timer is stopped: a free value within the register's width (10_state.md R22, log 6). -/
def State.freeCnt (s : State) : Nat := Config.freeTmrCnt s.freeIdx % 2 ^ s.cfg.tmrCntW

/-- TMR.START: `tmr_run <- 1`, the counter loaded with the first delay (42_handshake_timer.md R85). -/
def State.startTimer (s : State) : State :=
  { s with tmrRun := true, tmrCnt := s.cfg.firstDelayCycles - 1 }

/-- TMR.STOP: `tmr_run <- 0`; a pending tick is cancelled with it (42_handshake_timer.md R90). From here on tmr_cnt is
unspecified (10_state.md R22); on a timer that was stopped already nothing is new. -/
def State.stopTimer (s : State) : State :=
  { s with
    tmrRun := false
    tickPending := false
    tmrCnt := if s.tmrRun then s.freeCnt else s.tmrCnt
    freeIdx := if s.tmrRun then s.freeIdx + 1 else s.freeIdx }

/-- The counter's reload at a firing, `tmr_cnt <- TICK_DIV - 1` (42_handshake_timer.md R87, R89). -/
def State.reloadTimer (s : State) : State := { s with tmrCnt := s.cfg.tickDiv - 1 }

/-! ### Hidden port-level state -/

/-- A chunk in progress is abandoned: what came of it is dropped, what is still to come of it will be (20_memory.md R45). -/
def State.abandonChunk (s : State) : State :=
  { s with rxBuf := [], rxAbandon := s.rxAbandon || !s.rxBuf.isEmpty }

/-- The transmit queue is emptied, a frame already started is cut off (20_memory.md R46). tx_trace keeps them. -/
def State.flushTx (s : State) : State := { s with txq := [], txPos := 0 }

/-- AccOverflow, ONE operation for every place that raises it: the sticky fault bit is set and the partial frame
discarded (43_protocol_engine.md R106, 60_exceptions.md R134). -/
def State.overflow (s : State) : State :=
  { s.clearAcc with fltOvf := true }.raise .accOverflow

end Sys2Proof.Machine
end

