-- ==== Sys2Proof/Machine/Accumulator.lean ====
section
/-! DEFINITION. The FrameAccumulator operations (40_frame_accumulator.md): what the CHUNK step calls, and the meanings
of the six ACC rows performed on their own. -/

namespace Sys2Proof.Machine

/-- ACC.ISTERM: the last appended byte is the end marker; false on an empty accumulator (R72). -/
def State.isTerm (s : State) : Bool := lastIs s.acc eofData

/-- Where the bytes of a fed chunk go: index 0 when it begins with the start marker, `acc_len` otherwise (R75). -/
def feedBase (b : List Byte) (s : State) : Nat := if firstIs b sofData then 0 else s.accLen

/-- The chunk fits: `base + len(b) <= ACC_CAP` (R75). -/
def feedFits (b : List Byte) (s : State) : Bool := decide (feedBase b s + b.length ≤ s.cfg.accCap)

/-- ACC.APPEND under its precondition (R71). -/
def State.appendAcc (b : List Byte) (s : State) : State := { s with acc := Memory.append s.acc b }

/-- ACC.FEED(b): re-synchronise on a start marker at the head of the chunk, then append; or overflow (R75). -/
def accFeed (b : List Byte) (s : State) : State :=
  if feedFits b s then
    (if firstIs b sofData then s.clearAcc else s).appendAcc b
  else s.overflow

/-- ACC.RESET (R70). -/
def execAccReset (s : State) : Host.Outcome State Fault Refusal := .next s.clearAcc

/-- ACC.APPEND(b) (R71). Without its precondition `acc_len + len(b) <= ACC_CAP` it needs an index that does not exist,
and "an append that would need one is the overflow of 43_protocol_engine.md rule R106" (20_memory.md R31; log 12). -/
def execAccAppend (b : List Byte) (s : State) : Host.Outcome State Fault Refusal :=
  .next (if s.accLen + b.length ≤ s.cfg.accCap then s.appendAcc b else s.overflow)

/-- ACC.ISTERM (R72). -/
def execAccIsterm (s : State) : Host.Outcome State Fault Refusal := .next (s.record (.flag s.isTerm))

/-- ACC.PAYLOAD: the frame buffer, markers included (R73). -/
def execAccPayload (s : State) : Host.Outcome State Fault Refusal := .next (s.record (.bytes s.acc))

/-- ACC.INTERIOR: the frame buffer without its first and last byte (R74). -/
def execAccInterior (s : State) : Host.Outcome State Fault Refusal := .next (s.record (.bytes (interior s.acc)))

/-- ACC.FEED(b) (R75). -/
def execAccFeed (b : List Byte) (s : State) : Host.Outcome State Fault Refusal := .next (accFeed b s)

end Sys2Proof.Machine
end

