-- ==== Sys2Proof/Machine/Checksum.lean ====
section
/-! DEFINITION. The ChecksumValidator operations (41_checksum_validator.md): two pure functions, and the meanings of
the two CK rows performed on their own. -/

namespace Sys2Proof.Machine

/-- CK.COMPUTE(f): the sum of the interior bytes in 8 bits, each addition modulo 256 (R80, R82; 90_conflicts.md C1). -/
def ckCompute (f : List Byte) : Byte := (interior f).foldl (fun s x => s + x) 0

/-- CK.VALIDATE(f, c): equality of 8-bit patterns (R81). -/
def ckValidate (f : List Byte) (c : Byte) : Verdict := if ckCompute f = c then .matched else .mismatched

/-- CK.COMPUTE (R80). -/
def execCkCompute (f : List Byte) (s : State) : Host.Outcome State Fault Refusal :=
  .next (s.record (.byte (ckCompute f)))

/-- CK.VALIDATE (R81). The mismatch raises nothing here: "the caller raises ChecksumMismatch". -/
def execCkValidate (f : List Byte) (c : Byte) (s : State) : Host.Outcome State Fault Refusal :=
  .next (s.record (.verdict (ckValidate f c)))

end Sys2Proof.Machine
end

