-- ==== Sys2Proof/Machine/Engine.lean ====
section
/-! DEFINITION. The ProtocolEngine (43_protocol_engine.md): the CHUNK step in every state. -/

namespace Sys2Proof.Machine

/-- The class a chunk decodes to (30_encoding.md R59). -/
inductive ChunkClass where
  | ack
  | dataStart
  | dataCont
  | chksum
  | unrec
  | empty
  deriving DecidableEq, Repr

/-- Decode of an incoming chunk: the table of 30_encoding.md R59, row by row. -/
def classify (c : Config) (p : PState) (b : List Byte) : ChunkClass :=
  if b.isEmpty then .empty
  else match p with
    | .awaitingAck => if isAck b then .ack else .unrec
    | .collectingData => if firstIs b sofData then .dataStart else .dataCont
    | .awaitingChecksum => if isCk b then .chksum else .unrec
    | .complete => .unrec
    | .resendRequested => if c.resendReentry && firstIs b sofData then .dataStart else .unrec

/-- R102: the handshake is acknowledged. ACKED precedes TX.DATAREQ in the merged trace (D20). -/
def acknowledge (s : State) : State :=
  { ({ s with ack := true }.emitAcked.emitTx dataReqFrame) with pstate := .collectingData }

/-- R104, R105: after every feed that fits, the termination test. -/
def afterFeed (s : State) : State :=
  if s.isTerm then { s.emitTx chkReqFrame with pstate := .awaitingChecksum } else s

/-- R104 with R106: feed the accumulator; a chunk that overflows "is not tested for termination" (60_exceptions.md R137). -/
def collect (b : List Byte) (s : State) : State :=
  if feedFits b s then afterFeed (accFeed b s) else accFeed b s

/-- R108: the frame is validated; the accumulator keeps it. -/
def validated (s : State) : State :=
  { s with pstate := .complete }.emitPayload (interior s.acc)

/-- R109: a resend is requested. -/
def mismatched (s : State) : State :=
  { ((s.raise .checksumMismatch).emitTx resendFrame).clearAcc with pstate := .resendRequested }

/-- R103, R110, R111, R112: the chunk is dropped; only the label remains (60_exceptions.md R133). -/
def dropUnrec (s : State) : State := s.raise .protocolDesync

/-- CHUNK(b), the dispatch of R100: `conn`, the empty chunk, `ack`, then `pstate` (60_exceptions.md R137). With
`ack = 1` the state AwaitingAck does not occur (10_state.md R18 item 2); R100 gives it no row, so no rule recognises
the chunk there (log 11). -/
def chunkStep (b : List Byte) (s : State) : State :=
  if s.conn = false then s
  else if b = [] then s
  else if s.ack = false then (if isAck b then acknowledge s else dropUnrec s)
  else match s.pstate with
    | .awaitingAck => dropUnrec s
    | .collectingData => collect b s
    | .awaitingChecksum =>
      if isCk b then
        match ckValidate s.acc (ckByte b) with
        | .matched => validated s
        | .mismatched => mismatched s
      else dropUnrec s
    | .complete => dropUnrec s
    | .resendRequested =>
      if s.cfg.resendReentry && firstIs b sofData then collect b { s with pstate := .collectingData }
      else dropUnrec s

/-- CHUNK(b) (R100). -/
def execChunk (b : List Byte) (s : State) : Host.Outcome State Fault Refusal := .next (chunkStep b s)

end Sys2Proof.Machine
end

