-- ==== Sys2Proof/Machine/Chunks.lean ====
section
/-! DEFINITION. The six incoming chunk classes and the three pseudo-operations. "Which class a chunk falls in depends on
pstate" (30_encoding.md R65): each row here is the delivery of a chunk with the row's bytes, and the block's own decode
(43_protocol_engine.md R100) decides what it is (log 7). -/

namespace Sys2Proof.Machine

/-- RX.ACK: the chunk `50 02 <body> 5F` (30_encoding.md R52, 43_protocol_engine.md R102). -/
def execRxAck (body : List Byte) (s : State) : Host.Outcome State Fault Refusal :=
  .next (chunkStep (sofCmd :: ackCode :: body ++ [eofCmd]) s)

/-- RX.DATA_START: the chunk `40 <rest>` (43_protocol_engine.md R104). -/
def execRxDataStart (rest : List Byte) (s : State) : Host.Outcome State Fault Refusal :=
  .next (chunkStep (sofData :: rest) s)

/-- RX.DATA_CONT: a chunk whose first byte is no start marker (43_protocol_engine.md R104). -/
def execRxDataCont (first : Byte) (rest : List Byte) (s : State) : Host.Outcome State Fault Refusal :=
  .next (chunkStep (first :: rest) s)

/-- RX.CHKSUM: the chunk `40 <c> 4F` (30_encoding.md R53, 43_protocol_engine.md R108, R109). -/
def execRxChksum (c : Byte) (s : State) : Host.Outcome State Fault Refusal :=
  .next (chunkStep [sofData, c, eofData] s)

/-- RX.UNREC: a non-empty chunk; where no rule of the active state recognises it, it is dropped (43_protocol_engine.md
R103, R110, R111, R112). -/
def execRxUnrec (b : List Byte) (s : State) : Host.Outcome State Fault Refusal := .next (chunkStep b s)

/-- RX.EMPTY: the empty chunk (43_protocol_engine.md R100 (b)). -/
def execRxEmpty (s : State) : Host.Outcome State Fault Refusal := .next (chunkStep [] s)

/-- ACK = `CHUNK 50 02 5F` (30_encoding.md R64). -/
def execAck (s : State) : Host.Outcome State Fault Refusal := .next (chunkStep [sofCmd, ackCode, eofCmd] s)

/-- DATA p0 p1 ... = `CHUNK 40 p0 p1 ... 4F` (30_encoding.md R64). -/
def execData (p : List Byte) (s : State) : Host.Outcome State Fault Refusal := .next (chunkStep (dataFrame p) s)

/-- CKSUM cc = `CHUNK 40 cc 4F` (30_encoding.md R64). -/
def execCksum (c : Byte) (s : State) : Host.Outcome State Fault Refusal :=
  .next (chunkStep [sofData, c, eofData] s)

end Sys2Proof.Machine
end

