-- ==== Sys2Proof/Machine/Connection.lean ====
section
/-! DEFINITION. Connection control and the payload read (44_connection_control.md). -/

namespace Sys2Proof.Machine

/-- HRESET: every register to its reset value; a chunk in progress is abandoned, the transmit queue emptied, a pending
tick cancelled (R120, 20_memory.md R45, R46). The records of the past are kept. -/
def hresetStep (s : State) : State :=
  { s.abandonChunk.flushTx.clearAcc.stopTimer with
    conn := false
    pstate := .awaitingAck
    ack := false
    fltOvf := false
    evAck := false
    evPayload := false }

/-- CONNECT: a fresh engine, the timer started, from idle or as a full restart (R121, R123). A chunk in progress is
abandoned (20_memory.md R45), a pending tick cancelled (10_state.md R22). The transmit queue stays: "no frame is ever
dropped or reordered while `conn = 1`", and only DISCONNECT and HRESET discard frames (20_memory.md R46, log 13). -/
def connectStep (s : State) : State :=
  { s.abandonChunk.clearAcc.startTimer with
    conn := true
    pstate := .awaitingAck
    ack := false
    fltOvf := false
    tickPending := false }

/-- DISCONNECT: the engine's state is discarded, `flt_ovf` kept (R122, D17). -/
def disconnectStep (s : State) : State :=
  { s.abandonChunk.flushTx.clearAcc.stopTimer with
    conn := false
    pstate := .awaitingAck
    ack := false }

/-- `pl_len`: the length of the payload while it is readable, else 0 (20_memory.md R47). -/
def State.plLen (s : State) : Nat := if s.pstate = .complete then s.accLen - 2 else 0

/-- RDPL(i): byte `i` of the validated payload, `0x00` outside Complete or out of range (R125, 20_memory.md R47). -/
def State.readPayload (s : State) (i : Nat) : Byte :=
  if i < s.plLen then (Memory.read s.acc (i + 1)).getD 0 else 0

/-- HRESET (R120). -/
def execHreset (s : State) : Host.Outcome State Fault Refusal := .next (hresetStep s)

/-- CONNECT (R121, R123). -/
def execConnect (s : State) : Host.Outcome State Fault Refusal := .next (connectStep s)

/-- DISCONNECT (R122). -/
def execDisconnect (s : State) : Host.Outcome State Fault Refusal := .next (disconnectStep s)

/-- RDPL(i) (R125). -/
def execRdpl (i : Nat) (s : State) : Host.Outcome State Fault Refusal := .next (s.record (.byte (s.readPayload i)))

end Sys2Proof.Machine
end

