-- ==== Sys2Proof/Machine/Frames.lean ====
section
/-! DEFINITION. The four outgoing frames performed on their own (log 8): the frame is built and emitted. The events
emit them under the conditions of 43_protocol_engine.md R113. -/

namespace Sys2Proof.Machine

/-- TX.TIMESYNC(t) (42_handshake_timer.md R88). -/
def execTxTimesync (t : TimeSample) (s : State) : Host.Outcome State Fault Refusal :=
  .next (s.emitTx (timesyncFrame t))

/-- TX.DATAREQ (43_protocol_engine.md R114). -/
def execTxDatareq (s : State) : Host.Outcome State Fault Refusal := .next (s.emitTx dataReqFrame)

/-- TX.CHKREQ (43_protocol_engine.md R114). -/
def execTxChkreq (s : State) : Host.Outcome State Fault Refusal := .next (s.emitTx chkReqFrame)

/-- TX.RESEND (43_protocol_engine.md R114). -/
def execTxResend (s : State) : Host.Outcome State Fault Refusal := .next (s.emitTx resendFrame)

end Sys2Proof.Machine
end

