-- ==== Sys2Proof/Machine/Timer.lean ====
section
/-! DEFINITION. The HandshakeTimer operations (42_handshake_timer.md): TICK, TMR.START, TMR.STOP. -/

namespace Sys2Proof.Machine

/-- TICK is enabled (R86). -/
def State.tickEnabled (s : State) : Bool := s.conn && s.tmrRun

/-- The firing of R87 without the counter, which at the port level has been reloaded when the tick became ready (R89). -/
def fireTick (t : TimeSample) (s : State) : State :=
  if s.tickEnabled then
    if s.ack then s.stopTimer else s.emitTx (timesyncFrame t)
  else s

/-- TICK(t) as one event: the firing, and the counter's reload that belongs to it (R87, log 16). -/
def tickStep (t : TimeSample) (s : State) : State :=
  fireTick t (if s.tickEnabled && !s.ack then s.reloadTimer else s)

/-- TICK(t) (R87). -/
def execTick (t : TimeSample) (s : State) : Host.Outcome State Fault Refusal := .next (tickStep t s)

/-- TMR.START (R85). -/
def execTmrStart (s : State) : Host.Outcome State Fault Refusal := .next s.startTimer

/-- TMR.STOP (R90). -/
def execTmrStop (s : State) : Host.Outcome State Fault Refusal := .next s.stopTimer

end Sys2Proof.Machine
end

