-- ==== Sys2Proof/Machine/Dispatch.lean ====
section
/-! DEFINITION. One arm for each operation of spec/opcode_table.json. -/

namespace Sys2Proof.Machine

def exec (i : Instr) (s : State) : Host.Outcome State Fault Refusal :=
  match i with
  | .hreset => Sys2Proof.Machine.execHreset s
  | .connect => Sys2Proof.Machine.execConnect s
  | .disconnect => Sys2Proof.Machine.execDisconnect s
  | .tick t => Sys2Proof.Machine.execTick t s
  | .chunk b => Sys2Proof.Machine.execChunk b s
  | .txTimesync t => Sys2Proof.Machine.execTxTimesync t s
  | .txDatareq => Sys2Proof.Machine.execTxDatareq s
  | .txChkreq => Sys2Proof.Machine.execTxChkreq s
  | .txResend => Sys2Proof.Machine.execTxResend s
  | .rxAck body => Sys2Proof.Machine.execRxAck body s
  | .rxDataStart rest => Sys2Proof.Machine.execRxDataStart rest s
  | .rxDataCont first rest => Sys2Proof.Machine.execRxDataCont first rest s
  | .rxChksum c => Sys2Proof.Machine.execRxChksum c s
  | .rxUnrec b => Sys2Proof.Machine.execRxUnrec b s
  | .rxEmpty => Sys2Proof.Machine.execRxEmpty s
  | .accReset => Sys2Proof.Machine.execAccReset s
  | .accAppend b => Sys2Proof.Machine.execAccAppend b s
  | .accIsterm => Sys2Proof.Machine.execAccIsterm s
  | .accPayload => Sys2Proof.Machine.execAccPayload s
  | .accInterior => Sys2Proof.Machine.execAccInterior s
  | .accFeed b => Sys2Proof.Machine.execAccFeed b s
  | .ckCompute f => Sys2Proof.Machine.execCkCompute f s
  | .ckValidate f c => Sys2Proof.Machine.execCkValidate f c s
  | .tmrStart => Sys2Proof.Machine.execTmrStart s
  | .tmrStop => Sys2Proof.Machine.execTmrStop s
  | .rdpl n => Sys2Proof.Machine.execRdpl n s
  | .ack => Sys2Proof.Machine.execAck s
  | .data p => Sys2Proof.Machine.execData p s
  | .cksum c => Sys2Proof.Machine.execCksum c s

end Sys2Proof.Machine
end

