-- ==== Sys2Proof/Machine/Flags.lean ====
section
/-! DEFINITION. The read-only STATUS word (10_state.md R17), a pure function of the state. The block has no arithmetic
condition codes (R14); its four flags are the Bool fields of State. -/

namespace Sys2Proof.Machine

/-- The encoding of `pstate` (10_state.md R12, D5). -/
def PState.bits : PState → BitVec 3
  | .awaitingAck => 0
  | .collectingData => 1
  | .awaitingChecksum => 2
  | .complete => 3
  | .resendRequested => 4

/-- Codes of the conditions (60_exceptions.md R130). -/
def Condition.code : Condition → Nat
  | .transportError => 1
  | .checksumMismatch => 2
  | .protocolDesync => 3
  | .accOverflow => 4

/-- `PL_VALID`: 1 when `pstate = Complete`. -/
def State.plValid (s : State) : Bool := s.pstate == .complete

/-- STATUS bits 15:0, most significant first: reserved (reads 0), PL_VALID, PSTATE, FLT_OVF, TMR_RUN, ACK, CONN. -/
def State.statusLow (s : State) : BitVec 16 :=
  0#8 ++ BitVec.ofBool s.plValid ++ s.pstate.bits ++ BitVec.ofBool s.fltOvf ++ BitVec.ofBool s.tmrRun ++
    BitVec.ofBool s.ack ++ BitVec.ofBool s.conn

/-- STATUS: `ACC_LEN` above bit 16, ACC_LEN_W bits wide. -/
def State.status (s : State) : BitVec (s.cfg.accLenW + 16) :=
  BitVec.ofNat s.cfg.accLenW s.accLen ++ s.statusLow

end Sys2Proof.Machine
end

