-- ==== Sys2Proof/Machine/Port.lean ====
section
/-! DEFINITION. The port-level realisation (20_memory.md R42 to R48, 42_handshake_timer.md R89): one clock cycle. It
turns the port values of the cycle into events in the order of R42 and processes them by the event-level steps. -/

namespace Sys2Proof.Machine

/-! ### Output ports, functions of the state at the start of the cycle (log 19) -/

/-- `rx_ready`: 0 while the transmit queue is full (R46); bytes are accepted while `conn = 0` (R45). -/
def State.rxReady (s : State) : Bool := !s.conn || decide (s.txq.length < s.cfg.txqDepth)

/-- `tx_data` and `tx_last`: the next byte of the oldest queued frame (R46). -/
def State.txByte (s : State) : Option (Byte × Bool) :=
  match s.txq with
  | [] => none
  | f :: _ => (f[s.txPos]?).map (fun d => (d, decide (s.txPos + 1 = f.length)))

/-- All output ports (R44). -/
def portOut (p : PortIn) (s : State) : PortOut :=
  { rxReady := s.rxReady
    tx := s.txByte
    evAck := s.evAck
    evPayload := s.evPayload
    plLen := s.plLen
    plData := s.readPayload p.plAddr
    status := s.status.toNat }

/-! ### Hidden registers of 10_state.md R19, each a function of the bytes in progress or of the accumulator (log 18) -/

/-- Chunk position counter. -/
def State.rxCount (s : State) : Nat := s.rxBuf.length
/-- First-byte flag: the next byte is the first of its chunk. -/
def State.rxAtFirst (s : State) : Bool := s.rxBuf.isEmpty
/-- Holding register for `b[0]`. -/
def State.rxHold0 (s : State) : Option Byte := s.rxBuf[0]?
/-- Holding register for `b[1]`. -/
def State.rxHold1 (s : State) : Option Byte := s.rxBuf[1]?
/-- Saturating chunk length: "exactly 3" and "at least 3" are all the recognisers ask for. -/
def State.rxSatLen (s : State) : Nat := min s.rxBuf.length 4
/-- The next chunk byte goes to the accumulator: CollectingData, or re-entry from ResendRequested (43_protocol_engine.md R112). -/
def State.rxFeeds (s : State) : Bool :=
  s.conn && s.ack &&
    (s.pstate == .collectingData ||
      (s.pstate == .resendRequested && s.cfg.resendReentry && firstIs s.rxBuf sofData))
/-- Skip-rest-of-chunk flag: "detected at the first byte that does not fit" (43_protocol_engine.md R106). -/
def State.rxSkip (s : State) : Bool := s.rxFeeds && !feedFits s.rxBuf s
/-- Running checksum register: `(sum of acc[1..acc_len)) mod 256`. -/
def State.runningSum (s : State) : Byte := s.acc.tail.foldl (fun a x => a + x) 0

/-! ### The parts of a cycle -/

/-- The byte transferred on RX in this cycle: `rx_valid & rx_ready` (R44). -/
def rxTransfer (p : PortIn) (s : State) : Option (Byte × Bool) := if s.rxReady then p.rx else none

/-- A CONNECT or DISCONNECT occurs in this cycle. -/
def PortIn.control (p : PortIn) : Bool := p.connStart || p.connStop

/-- The chunk in progress is lost in this cycle: it is being discarded already, its bytes come while `conn = 0`, or bytes
of it came before a CONNECT or DISCONNECT of this cycle (R45, log 14). -/
def State.rxDiscards (p : PortIn) (s : State) : Bool :=
  s.rxAbandon || !s.conn || (p.control && !s.rxBuf.isEmpty)

/-- The chunk whose last byte is transferred in this cycle, unless it is lost (R45). -/
def rxCompleted (p : PortIn) (x : Option (Byte × Bool)) (s : State) : Option (List Byte) :=
  match x with
  | some (d, true) => if s.rxDiscards p then none else some (s.rxBuf ++ [d])
  | _ => none

/-- A last byte ends the chunk in progress, discarded or not (R45). -/
def rxClose (x : Option (Byte × Bool)) (s : State) : State :=
  match x with
  | some (_, true) => { s with rxBuf := [], rxAbandon := false }
  | _ => s

/-- Any other byte is kept where its chunk is not lost (`discards`) and a connection exists after the cycle's control
events; otherwise the rest of its chunk is discarded with it (R45, log 14). -/
def rxKeep (discards : Bool) (x : Option (Byte × Bool)) (s : State) : State :=
  match x with
  | some (d, false) =>
    if discards || !s.conn then { s with rxAbandon := true } else { s with rxBuf := s.rxBuf ++ [d] }
  | _ => s

/-- A byte that is transferred in a cycle with `rst = 1` and ends no chunk: the rest of its chunk is discarded (log 15). -/
def rxLost (x : Option (Byte × Bool)) (s : State) : State :=
  match x with
  | some (_, false) => { s with rxAbandon := true }
  | _ => s

/-- A byte is transferred on TX in this cycle: `tx_valid & tx_ready` (R46). -/
def txTransfer (ready : Bool) (s : State) : State :=
  match s.txq with
  | [] => s
  | f :: rest =>
    if ready then
      if s.txPos + 1 < f.length then { s with txPos := s.txPos + 1 } else { s with txq := rest, txPos := 0 }
    else s

/-- The timer counter in one cycle (42_handshake_timer.md R89): at 0 a tick becomes ready and the counter reloads,
otherwise it counts down; while the timer is stopped its value is unspecified (10_state.md R22, log 6). -/
def timerClock (s : State) : State :=
  if s.tmrRun then
    if s.tmrCnt = 0 then { s.reloadTimer with tickPending := true } else { s with tmrCnt := s.tmrCnt - 1 }
  else { s with tmrCnt := s.freeCnt, freeIdx := s.freeIdx + 1 }

/-- A ready tick is processed: no chunk is in progress and the transmit queue has room (R42, R46). -/
def State.tickDue (s : State) : Bool :=
  s.tickPending && s.rxBuf.isEmpty && decide (s.txq.length < s.cfg.txqDepth)

/-- The tick's step, with the sample of this cycle (R48); the latch is cleared with it. -/
def portTick (t : TimeSample) (s : State) : State :=
  if s.tickDue then fireTick t { s with tickPending := false } else s

/-- Record the outputs and end the pulses of the cycle before. -/
def cycleStart (p : PortIn) (s : State) : State :=
  { s with outTrace := s.outTrace ++ [portOut p s], evAck := false, evPayload := false }

/-- The host's pulses, DISCONNECT before CONNECT (R42). -/
def portControl (p : PortIn) (s : State) : State :=
  let s := if p.connStop then disconnectStep s else s
  if p.connStart then connectStep s else s

/-- The chunk completed in this cycle (R42). -/
def portChunk (b : Option (List Byte)) (s : State) : State :=
  match b with
  | some b => chunkStep b s
  | none => s

/-- One clock cycle. HRESET is "first and alone (the others are lost)"; then DISCONNECT, CONNECT, the CHUNK whose last
byte is accepted in this cycle, TICK (R42). -/
def portCycle (p : PortIn) (s : State) : State :=
  let x := rxTransfer p s
  let done := rxCompleted p x s
  let discards := s.rxDiscards p
  let s := rxClose x (txTransfer p.txReady (cycleStart p s))
  if p.rst then rxLost x (hresetStep s)
  else portTick p.rtc (portChunk done (rxKeep discards x (portControl p (timerClock s))))

end Sys2Proof.Machine
end

