-- ==== Sys2Proof/Machine/Step.lean ====
section
/-! DEFINITION. The step: the next input of State.inbox is processed. The block fetches no program (00_scope.md R2); what
it processes is what the outside presents, in order (20_memory.md R39, log 1). -/

namespace Sys2Proof.Machine

/-- The state with its next input taken. -/
def State.takeInput (s : State) : State := { s with inbox := s.inbox.tail }

/-- One step: an operation is decoded and performed, a clock cycle is run; with no input the block waits ("No step of
the block happens without an event", 90_conflicts.md C8; 60_exceptions.md R144). -/
def step (s : State) : Host.Outcome State Fault Refusal :=
  match s.inbox with
  | [] => .next s
  | .cycle p :: _ => .next (portCycle p s.takeInput)
  | .op d :: _ =>
    match decode d with
    | .ok i => exec i s.takeInput
    | .error e => .refused (.malformed e)

/-- `s` with the operation of the table's number `w` as its next input (Decode: `tableDescriptor`); a number that no row
matches becomes the empty descriptor, which the step refuses. -/
def State.withFetchWord (s : State) (nbits w : Nat) : State :=
  { s with inbox := .op ((tableDescriptor nbits w).getD []) :: s.inbox }

end Sys2Proof.Machine
end

