-- ==== Sys2Proof/Machine/Script.lean ====
section
/-! DEFINITION. A script of operations (30_encoding.md R63): one after the other, each from the state the one before
left (20_memory.md R39). -/

namespace Sys2Proof.Machine

/-- Perform the operations in order, stopping where one does not complete. -/
def runOps : List Instr → State → Host.Outcome State Fault Refusal
  | [], s => .next s
  | i :: is, s =>
    match exec i s with
    | .next t => runOps is t
    | .fault r => .fault r
    | .refused r => .refused r

end Sys2Proof.Machine
end

