-- ==== Sys2Proof/Safety.lean ====
section
/-! DEFINITION. The terms claims are made in: the invariants, the event-level view of a state, and what a run of one
session is. -/

namespace Sys2Proof.Machine

/-! ### The invariant of 10_state.md R18 -/

/-- The nine items of 10_state.md R18, in its order (item 9's "pstate is one of the five states" is PState's type). -/
abbrev State.ArchInv (s : State) : Prop :=
  (s.conn = false → s.pstate = .awaitingAck ∧ s.ack = false ∧ s.accLen = 0 ∧ s.tmrRun = false) ∧
  (s.ack = true ↔ s.pstate ≠ .awaitingAck) ∧
  (s.tmrRun = true → s.conn = true) ∧
  (s.ack = false ∧ s.conn = true → s.tmrRun = true) ∧
  (s.pstate = .awaitingAck → s.accLen = 0) ∧
  (s.pstate = .collectingData → s.accLen = 0 ∨ Memory.read s.acc (s.accLen - 1) ≠ some eofData) ∧
  (s.pstate = .awaitingChecksum ∨ s.pstate = .complete →
    1 ≤ s.accLen ∧ Memory.read s.acc (s.accLen - 1) = some eofData) ∧
  (s.pstate = .resendRequested → s.accLen = 0) ∧
  Memory.wf s.cfg s.acc

/-- An input the environment can make: a clock cycle, or an operation of 44_connection_control.md R126. -/
def Input.external : Input → Bool
  | .cycle _ => true
  | .op d =>
    match decode d with
    | .ok i => i.external
    | .error _ => true

/-- Every input still to come is one the environment can make. -/
def State.inboxExternal (s : State) : Bool := s.inbox.all Input.external

/-- The invariant of the port-level state: the queue never exceeds its depth (20_memory.md R46), the byte position lies
inside the frame that is being sent, without a connection nothing is queued (R46) and no byte is kept (R45), the running
counter inside its period (42_handshake_timer.md R89), a pending tick has a running timer (R90), and while a chunk is
being discarded no bytes are kept (20_memory.md R45) and the connection, if there is one, is still unacknowledged. -/
abbrev State.PortInv (s : State) : Prop :=
  s.txq.length ≤ s.cfg.txqDepth ∧
  (∀ f ∈ s.txq.head?, s.txPos < f.length) ∧
  (s.txq = [] → s.txPos = 0) ∧
  (∀ f ∈ s.txq, f ≠ []) ∧
  (s.conn = false → s.txq = [] ∧ s.rxBuf = []) ∧
  (s.tmrRun = true → s.tmrCnt < s.cfg.tickDiv) ∧
  (s.tickPending = true → s.tmrRun = true) ∧
  (s.rxAbandon = true → s.rxBuf = [] ∧ (s.conn = true → s.ack = false))

/-! ### The event level -/

/-- What the event level sees of a state (00_scope.md R5): the registers of 10_state.md R10 without tmr_cnt, and the two
output traces; with them the labels of the conditions. -/
structure EventView where
  conn : Bool
  pstate : PState
  ack : Bool
  acc : Memory
  tmrRun : Bool
  fltOvf : Bool
  trace : List Emission
  conds : List Condition
  deriving DecidableEq, Repr

/-- The event-level view. -/
def State.eventView (s : State) : EventView :=
  { conn := s.conn, pstate := s.pstate, ack := s.ack, acc := s.acc, tmrRun := s.tmrRun, fltOvf := s.fltOvf,
    trace := s.trace, conds := s.conds }

/-- A cycle in which nothing comes in: no control, no byte. -/
def PortIn.quiet (p : PortIn) : Bool := !p.rst && !p.connStart && !p.connStop && p.rx.isNone

/-- Run clock cycles in order. -/
def runCycles (ps : List PortIn) (s : State) : State := ps.foldl (fun s p => portCycle p s) s

/-- A frame as it stands on TX: each byte with its `tx_last`, 1 on the final byte only (20_memory.md R46). -/
def frameOnTx (f : Frame) : List (Byte × Bool) := f.zipIdx.map (fun x => (x.1, decide (x.2 + 1 = f.length)))

/-- What is still to be transferred on TX: the rest of the frame being sent, then the frames behind it. -/
def State.txPending (s : State) : List (Byte × Bool) := (s.txq.flatMap frameOnTx).drop s.txPos

/-- The bytes transferred on RX, with their `rx_last`, in a run of clock cycles. -/
def rxTransfers : List PortIn → State → List (Byte × Bool)
  | [], _ => []
  | p :: ps, s => (rxTransfer p s).toList ++ rxTransfers ps (portCycle p s)

/-- The frames among emissions. -/
def framesOf (es : List Emission) : List Frame :=
  es.filterMap (fun e => match e with | .tx f => some f | .ev _ => none)

/-- The four frames the block emits (30_encoding.md R61). -/
def isBlockFrame (f : Frame) : Prop :=
  (∃ t, f = timesyncFrame t) ∨ f = dataReqFrame ∨ f = chkReqFrame ∨ f = resendFrame

end Sys2Proof.Machine
end

