-- ==== Sys2Proof/Certificates/Slice0/Obligations.lean ====
section
/-! DEFINITION. The statements for the provers, from the numbered rules of spec/. Quantified over every state, every
configuration and every operand; no statement rests on the value of a free value. `i.chunkBytes = some b` says that the
operation `i` delivers the chunk `b`: CHUNK itself, the six chunk classes and the three pseudo-operations. -/

open Sys2Proof Sys2Proof.Machine

/-! ### Descriptors and words -/

/-- The descriptor of every operation with legal operands decodes to that operation (descriptors: log 2). -/
def Obligations.DecodeInvertsEncode : Prop :=
  ∀ i : Instr, i.operandsOk = true → decode (encode i) = .ok i

/-- A byte string that decodes is the descriptor of exactly that operation, whose operands are legal (log 2). -/
def Obligations.EveryDescriptorHasOneMeaning : Prop :=
  ∀ (d : List Byte) (i : Instr), decode d = .ok i → i.operandsOk = true ∧ encode i = d

/-- A number of every row of the opcode table that has a match, the 3-bit numbers that are the code of no event
(30_encoding.md R62), and RX.DATA_CONT for "any first byte other than 0x40" (R65). How the table's numbers are read is
the model's choice where R65 leaves it open (log 3): a 3-bit event code also as an 8-bit number, an 8-bit 0 to 4 first as
the event and then as RX.DATA_CONT, the three request frames first as outgoing, operands that a number does not carry zero
or empty. -/
def Obligations.TableNumbersDecodeToTheirRows : Prop :=
  (∀ n, n = 3 ∨ n = 8 →
    decodeTableWord n 0 = some .hreset ∧ decodeTableWord n 1 = some .connect ∧
    decodeTableWord n 2 = some .disconnect ∧ decodeTableWord n 3 = some (.tick ⟨0, 0, 0, 0, 0, 0⟩) ∧
    decodeTableWord n 4 = some (.chunk [])) ∧
  decodeTableWord 3 5 = none ∧ decodeTableWord 3 6 = none ∧ decodeTableWord 3 7 = none ∧
  (∀ b : Byte, .rxDataCont b [] ∈ tableReadings 8 b.toNat ↔ b ≠ 0x40) ∧
  (∀ b : Byte, 5 ≤ b.toNat → b ≠ 0x40 → decodeTableWord 8 b.toNat = some (.rxDataCont b [])) ∧
  decodeTableWord 8 0x40 = some (.rxDataStart []) ∧
  decodeTableWord 8 0x41 = some (.rxDataCont 0x41 []) ∧ decodeTableWord 8 0x08 = some (.rxDataCont 0x08 []) ∧
  decodeTableWord 24 0x40014F = some .txDatareq ∧ decodeTableWord 24 0x40024F = some .txChkreq ∧
  decodeTableWord 24 0x40044F = some .txResend ∧ decodeTableWord 24 0x40004F = some (.rxChksum 0) ∧
  decodeTableWord 16 0x5002 = some (.rxAck []) ∧
  decodeTableWord 80 0x500007EA0B0A0E1E055F = some (.txTimesync ⟨0xEA, 0x0B, 0x0A, 0x0E, 0x1E, 0x05⟩)

/-- Every value of the checksum field of format F3 is read from bits 15 to 8 of the table's number (30_encoding.md R53).
The three that are the outgoing frames' words too are read first as those; the table has no bit for the direction (log 3). -/
def Obligations.ChecksumFieldIsReadFromItsBits : Prop :=
  ∀ c : Byte,
    .rxChksum c ∈ tableReadings 24 (0x40#8 ++ c ++ 0x4F#8 : BitVec 24).toNat ∧
    (c ≠ 0x01 → c ≠ 0x02 → c ≠ 0x04 →
      decodeTableWord 24 (0x40#8 ++ c ++ 0x4F#8 : BitVec 24).toNat = some (.rxChksum c))

/-- The six fields of format F10 are read from bytes 3 to 8 of the 80-bit word (30_encoding.md R51);
the year's high byte, which the frame does not carry, is zero (log 3). -/
def Obligations.TimesyncFieldsAreReadFromTheirBytes : Prop :=
  ∀ yy mo dd hh mi ss : Byte,
    decodeTableWord 80
      (0x50#8 ++ 0x00#8 ++ 0x07#8 ++ yy ++ mo ++ dd ++ hh ++ mi ++ ss ++ 0x5F#8 : BitVec 80).toNat =
      some (.txTimesync ⟨0x00#8 ++ yy, mo, dd, hh, mi, ss⟩)

/-! ### The step -/

/-- When the next input is an operation's descriptor, the step is that operation's meaning on the state with the input taken. -/
def Obligations.StepPerformsTheDecodedOperation : Prop :=
  ∀ (s : State) (d : List Byte) (rest : List Input) (i : Instr),
    s.inbox = .op d :: rest → decode d = .ok i → step s = exec i { s with inbox := rest }

/-- Without input the step leaves the state as it is; with a clock cycle it is that cycle; a byte string that is no
descriptor is refused by name (log 1, log 2). -/
def Obligations.StepWaitsCyclesOrRefuses : Prop :=
  ∀ s : State,
    (s.inbox = [] → step s = .next s) ∧
    (∀ p rest, s.inbox = .cycle p :: rest → step s = .next (portCycle p { s with inbox := rest })) ∧
    (∀ d rest e, s.inbox = .op d :: rest → decode d = .error e → step s = .refused (.malformed e))

/-- Nothing traps: every operation completes in every state (30_encoding.md R61, 60_exceptions.md R138). That the internal
operations and the outgoing frames can be performed alone, in any state, is the model's choice (log 8), and so is that
ACC.APPEND completes without its precondition (log 12). -/
def Obligations.EveryOperationCompletes : Prop :=
  ∀ (i : Instr) (s : State), ∃ t, exec i s = .next t

/-! ### Reset and connection control -/

/-- HRESET (44_connection_control.md R120): all registers to their reset values, in every state; the records of the
past, the configuration and the inputs are kept. That the pulses end is the model's choice (log 5). -/
def Obligations.HresetLeavesTheIdleState : Prop :=
  ∀ s : State, ∃ t, exec .hreset s = .next t ∧
    t.conn = false ∧ t.pstate = .awaitingAck ∧ t.ack = false ∧ t.acc = [] ∧ t.tmrRun = false ∧ t.fltOvf = false ∧
    t.rxBuf = [] ∧ t.rxAbandon = (s.rxAbandon || !s.rxBuf.isEmpty) ∧ t.txq = [] ∧ t.txPos = 0 ∧
    t.tickPending = false ∧ t.evAck = false ∧ t.evPayload = false ∧
    t.trace = s.trace ∧ t.conds = s.conds ∧ t.results = s.results ∧ t.outTrace = s.outTrace ∧
    t.cfg = s.cfg ∧ t.inbox = s.inbox

/-- CONNECT (44_connection_control.md R121, R123, 42_handshake_timer.md R85), from idle and as a full restart alike: the
new state whole. A chunk in progress is abandoned (20_memory.md R45), a pending tick cancelled (10_state.md R22), and the
transmit queue stays (20_memory.md R46; the model's reading beside 10_state.md R22, log 13). -/
def Obligations.ConnectCreatesAFreshEngine : Prop :=
  ∀ s : State, exec .connect s = .next
    { s with
      conn := true
      pstate := .awaitingAck
      ack := false
      acc := []
      fltOvf := false
      tmrRun := true
      tmrCnt := 1000 * s.cfg.clkHz / 1000 - 1
      rxBuf := []
      rxAbandon := s.rxAbandon || !s.rxBuf.isEmpty
      tickPending := false }

/-- DISCONNECT (44_connection_control.md R122): the engine's state is discarded, `flt_ovf` is unchanged. -/
def Obligations.DisconnectDiscardsTheEngine : Prop :=
  ∀ s : State, ∃ t, exec .disconnect s = .next t ∧
    t.conn = false ∧ t.pstate = .awaitingAck ∧ t.ack = false ∧ t.acc = [] ∧ t.tmrRun = false ∧ t.fltOvf = s.fltOvf ∧
    t.rxBuf = [] ∧ t.rxAbandon = (s.rxAbandon || !s.rxBuf.isEmpty) ∧ t.txq = [] ∧ t.txPos = 0 ∧
    t.tickPending = false ∧ t.evAck = s.evAck ∧ t.evPayload = s.evPayload ∧
    t.trace = s.trace ∧ t.conds = s.conds ∧ t.results = s.results ∧ t.outTrace = s.outTrace ∧
    t.cfg = s.cfg ∧ t.inbox = s.inbox

/-- "DISCONNECT with conn = 0 changes nothing" (44_connection_control.md R122), in the states that meet the two
invariants. -/
def Obligations.DisconnectWithoutConnectionChangesNothing : Prop :=
  ∀ s : State, s.ArchInv → s.PortInv → s.conn = false →
    exec .disconnect s = .next s

/-- The registers after reset (10_state.md R22, column "after HRESET"; 70_reset_and_hazards.md R150), with the hidden
state cleared. Says nothing of tmr_cnt, whose value at reset is the model's (log 5). -/
def Obligations.ResetStateHasTheSpecsValues : Prop :=
  State.reset.conn = false ∧ State.reset.pstate = .awaitingAck ∧ State.reset.ack = false ∧
  State.reset.accLen = 0 ∧ State.reset.tmrRun = false ∧ State.reset.fltOvf = false ∧ State.reset.status.toNat = 0 ∧
  State.reset.rxBuf = [] ∧ State.reset.txq = [] ∧ State.reset.tickPending = false ∧
  257 ≤ State.reset.cfg.accCap ∧ State.reset.cfg.resendReentry = false

/-! ### The timer -/

/-- TICK while unacknowledged (42_handshake_timer.md R87, R88): one time-sync frame of 10 bytes, nothing else but the
counter's reload. -/
def Obligations.TickBeforeAckSendsOneTimesync : Prop :=
  ∀ (t : TimeSample) (s : State), s.conn = true → s.tmrRun = true → s.ack = false →
    exec (.tick t) s = .next
      { s with
        tmrCnt := s.cfg.clkHz * 1000 / 1000 - 1
        trace := s.trace ++
          [.tx [0x50, 0x00, 0x07, BitVec.ofNat 8 (t.year.toNat % 256), t.month, t.day, t.hour, t.minute, t.second, 0x5F]]
        txq := s.txq ++
          [[0x50, 0x00, 0x07, BitVec.ofNat 8 (t.year.toNat % 256), t.month, t.day, t.hour, t.minute, t.second, 0x5F]] }

/-- TICK after the acknowledgment (42_handshake_timer.md R87): the timer stops, nothing is emitted, no other register is
written. tmr_cnt is unspecified from then on, so the statement says nothing of it. -/
def Obligations.TickAfterAckStopsTheTimer : Prop :=
  ∀ (t : TimeSample) (s : State), s.conn = true → s.tmrRun = true → s.ack = true →
    ∃ u, exec (.tick t) s = .next u ∧ u.tmrRun = false ∧ u.tickPending = false ∧
      u.eventView = { s.eventView with tmrRun := false } ∧
      u.cfg = s.cfg ∧ u.results = s.results ∧ u.rxBuf = s.rxBuf ∧ u.rxAbandon = s.rxAbandon ∧ u.txq = s.txq ∧
      u.txPos = s.txPos ∧ u.evAck = s.evAck ∧ u.evPayload = s.evPayload ∧ u.outTrace = s.outTrace ∧ u.inbox = s.inbox

/-- TICK that is not enabled is dropped (42_handshake_timer.md R87, first branch; R86). -/
def Obligations.TickNotEnabledIsDropped : Prop :=
  ∀ (t : TimeSample) (s : State), s.conn = false ∨ s.tmrRun = false → exec (.tick t) s = .next s

/-- TMR.START and TMR.STOP (42_handshake_timer.md R85, R90). Of tmr_cnt after a stop nothing is said. -/
def Obligations.TimerStartAndStop : Prop :=
  (∀ s : State, exec .tmrStart s = .next { s with tmrRun := true, tmrCnt := 1000 * s.cfg.clkHz / 1000 - 1 }) ∧
  (∀ s : State, ∃ t, exec .tmrStop s = .next t ∧ t.tickPending = false ∧
    t.eventView = { s.eventView with tmrRun := false } ∧
    t.cfg = s.cfg ∧ t.results = s.results ∧ t.rxBuf = s.rxBuf ∧ t.rxAbandon = s.rxAbandon ∧ t.txq = s.txq ∧
    t.txPos = s.txPos ∧ t.evAck = s.evAck ∧ t.evPayload = s.evPayload ∧ t.outTrace = s.outTrace ∧ t.inbox = s.inbox)

/-! ### The CHUNK step -/

/-- The ack (43_protocol_engine.md R102): length at least 3, bytes 0, 1 and last exactly `50`, `02`, `5F`. -/
def Obligations.AckChunkAcknowledges : Prop :=
  ∀ (i : Instr) (b : List Byte) (s : State), i.chunkBytes = some b → s.conn = true → s.ack = false →
    3 ≤ b.length → b[0]? = some 0x50 → b[1]? = some 0x02 → b.getLast? = some 0x5F →
    exec i s = .next
      { s with
        ack := true
        pstate := .collectingData
        trace := s.trace ++ [.ev .acked, .tx [0x40, 0x01, 0x4F]]
        txq := s.txq ++ [[0x40, 0x01, 0x4F]]
        evAck := true }

/-- Any other non-empty chunk before the acknowledgment is dropped (43_protocol_engine.md R103); only the condition's
label is added (log 10). -/
def Obligations.OtherChunkBeforeAckIsDropped : Prop :=
  ∀ (i : Instr) (b : List Byte) (s : State), i.chunkBytes = some b → s.conn = true → s.ack = false → b ≠ [] →
    ¬(3 ≤ b.length ∧ b[0]? = some 0x50 ∧ b[1]? = some 0x02 ∧ b.getLast? = some 0x5F) →
    exec i s = .next { s with conds := s.conds ++ [.protocolDesync] }

/-- A chunk that fits, in CollectingData (43_protocol_engine.md R104, R105, 40_frame_accumulator.md R75): it replaces the
frame buffer when it begins with `40` and is appended otherwise; when it ends with `4F` the checksum is requested. -/
def Obligations.FittingChunkIsCollected : Prop :=
  ∀ (i : Instr) (b acc' : List Byte) (s : State), i.chunkBytes = some b →
    s.conn = true → s.ack = true → s.pstate = .collectingData → b ≠ [] →
    acc' = (if b.head? = some 0x40 then b else s.acc ++ b) → acc'.length ≤ s.cfg.accCap →
    (b.getLast? ≠ some 0x4F → exec i s = .next { s with acc := acc' }) ∧
    (b.getLast? = some 0x4F → exec i s = .next
      { s with
        acc := acc'
        pstate := .awaitingChecksum
        trace := s.trace ++ [.tx [0x40, 0x02, 0x4F]]
        txq := s.txq ++ [[0x40, 0x02, 0x4F]] })

/-- A chunk that does not fit, in CollectingData (43_protocol_engine.md R106): the fault bit, an empty accumulator,
nothing emitted, the same state; the condition's label is added (log 10). -/
def Obligations.OverflowingChunkIsDiscarded : Prop :=
  ∀ (i : Instr) (b : List Byte) (s : State), i.chunkBytes = some b →
    s.conn = true → s.ack = true → s.pstate = .collectingData → b ≠ [] →
    s.cfg.accCap < (if b.head? = some 0x40 then 0 else s.acc.length) + b.length →
    exec i s = .next { s with acc := [], fltOvf := true, conds := s.conds ++ [.accOverflow] }

/-- A checksum frame that matches (43_protocol_engine.md R108): the payload, the frame buffer without its first and last
byte, is delivered; the frame buffer stays. -/
def Obligations.MatchingChecksumDeliversThePayload : Prop :=
  ∀ (i : Instr) (c : Byte) (s : State), i.chunkBytes = some [0x40, c, 0x4F] →
    s.conn = true → s.ack = true → s.pstate = .awaitingChecksum →
    c.toNat = (((s.acc.drop 1).take (s.acc.length - 2)).map BitVec.toNat).sum % 256 →
    exec i s = .next
      { s with
        pstate := .complete
        trace := s.trace ++ [.ev (.payload ((s.acc.drop 1).take (s.acc.length - 2)))]
        evPayload := true }

/-- A checksum frame that does not match (43_protocol_engine.md R109): the resend request, an empty accumulator; the
condition's label is added (log 10). -/
def Obligations.MismatchingChecksumRequestsAResend : Prop :=
  ∀ (i : Instr) (c : Byte) (s : State), i.chunkBytes = some [0x40, c, 0x4F] →
    s.conn = true → s.ack = true → s.pstate = .awaitingChecksum →
    c.toNat ≠ (((s.acc.drop 1).take (s.acc.length - 2)).map BitVec.toNat).sum % 256 →
    exec i s = .next
      { s with
        pstate := .resendRequested
        acc := []
        trace := s.trace ++ [.tx [0x40, 0x04, 0x4F]]
        txq := s.txq ++ [[0x40, 0x04, 0x4F]]
        conds := s.conds ++ [.checksumMismatch] }

/-- A chunk that no rule of the active state recognises after the acknowledgment is dropped (43_protocol_engine.md R110,
R111, R112 with RESEND_REENTRY = 0 or another first byte than `40`). -/
def Obligations.UnrecognisedChunkIsDropped : Prop :=
  ∀ (i : Instr) (b : List Byte) (s : State), i.chunkBytes = some b → s.conn = true → s.ack = true → b ≠ [] →
    (s.pstate = .awaitingChecksum ∧ ¬(b.length = 3 ∧ b[0]? = some 0x40 ∧ b[2]? = some 0x4F) ∨
      s.pstate = .complete ∨
      s.pstate = .resendRequested ∧ (s.cfg.resendReentry = false ∨ b.head? ≠ some 0x40)) →
    exec i s = .next { s with conds := s.conds ++ [.protocolDesync] }

/-- With RESEND_REENTRY = 1 a chunk that begins with `40` leaves ResendRequested: it is processed as in CollectingData
(43_protocol_engine.md R112). -/
def Obligations.ReentryIsProcessedAsData : Prop :=
  ∀ (i : Instr) (b : List Byte) (s : State), i.chunkBytes = some b →
    s.conn = true → s.ack = true → s.pstate = .resendRequested → s.cfg.resendReentry = true → b.head? = some 0x40 →
    exec i s = exec (.chunk b) { s with pstate := .collectingData }

/-- Without a connection every chunk, and in every state the empty chunk, changes nothing at all, not even a label
(43_protocol_engine.md R100, 44_connection_control.md R124). -/
def Obligations.IgnoredChunkChangesNothing : Prop :=
  ∀ (i : Instr) (b : List Byte) (s : State), i.chunkBytes = some b → s.conn = false ∨ b = [] → exec i s = .next s

/-- The pseudo-operations are their expansions (30_encoding.md R64). -/
def Obligations.PseudoOperationsAreTheirExpansions : Prop :=
  ∀ s : State,
    exec .ack s = exec (.chunk [0x50, 0x02, 0x5F]) s ∧
    (∀ p : List Byte, exec (.data p) s = exec (.chunk ([0x40] ++ p ++ [0x4F])) s) ∧
    (∀ c : Byte, exec (.cksum c) s = exec (.chunk [0x40, c, 0x4F]) s)

/-- The six chunk classes are deliveries of chunks of their shape (30_encoding.md R52, R53, R59; log 7). -/
def Obligations.ChunkClassesDeliverTheirBytes : Prop :=
  ∀ s : State,
    (∀ body : List Byte, exec (.rxAck body) s = exec (.chunk ([0x50, 0x02] ++ body ++ [0x5F])) s) ∧
    (∀ rest : List Byte, exec (.rxDataStart rest) s = exec (.chunk ([0x40] ++ rest)) s) ∧
    (∀ (x : Byte) (rest : List Byte), exec (.rxDataCont x rest) s = exec (.chunk ([x] ++ rest)) s) ∧
    (∀ c : Byte, exec (.rxChksum c) s = exec (.chunk [0x40, c, 0x4F]) s) ∧
    (∀ b : List Byte, exec (.rxUnrec b) s = exec (.chunk b) s) ∧
    exec .rxEmpty s = exec (.chunk []) s

/-- The decode table of 30_encoding.md R59 and the dispatch of 43_protocol_engine.md R100 agree in the states that meet
10_state.md R18. -/
def Obligations.DispatchFollowsTheDecodeTable : Prop :=
  ∀ (b : List Byte) (s : State), s.ArchInv → s.conn = true →
    exec (.chunk b) s = .next
      (match classify s.cfg s.pstate b with
        | .empty => s
        | .unrec => { s with conds := s.conds ++ [.protocolDesync] }
        | .ack => acknowledge s
        | .dataStart => collect b { s with pstate := .collectingData }
        | .dataCont => collect b s
        | .chksum => if ckCompute s.acc = ckByte b then validated s else mismatched s)

/-! ### The outgoing frames, the accumulator, the checksum, the payload read, STATUS -/

/-- The four outgoing frames performed on their own: each is its bytes, appended to tx_trace and queued (42_handshake_timer.md
R88, 43_protocol_engine.md R114; log 8). -/
def Obligations.OutgoingFramesAreTheirBytes : Prop :=
  ∀ s : State,
    (∀ (i : Instr) (f : Frame),
      (i = .txDatareq ∧ f = [0x40, 0x01, 0x4F] ∨ i = .txChkreq ∧ f = [0x40, 0x02, 0x4F] ∨
        i = .txResend ∧ f = [0x40, 0x04, 0x4F] ∨
        ∃ t : TimeSample, i = .txTimesync t ∧
          f = [0x50, 0x00, 0x07, BitVec.ofNat 8 (t.year.toNat % 256), t.month, t.day, t.hour, t.minute, t.second, 0x5F]) →
      exec i s = .next { s with trace := s.trace ++ [.tx f], txq := s.txq ++ [f] })

/-- ACC.RESET, ACC.APPEND under its precondition, ACC.FEED (40_frame_accumulator.md R70, R71, R75), performed
on their own (log 8); an overflow adds the condition's label (log 10). -/
def Obligations.AccumulatorWrites : Prop :=
  (∀ s : State, exec .accReset s = .next { s with acc := [] }) ∧
  (∀ (b : List Byte) (s : State), s.acc.length + b.length ≤ s.cfg.accCap →
    exec (.accAppend b) s = .next { s with acc := s.acc ++ b }) ∧
  (∀ (b : List Byte) (s : State), b ≠ [] →
    (b.head? = some 0x40 → b.length ≤ s.cfg.accCap → exec (.accFeed b) s = .next { s with acc := b }) ∧
    (b.head? ≠ some 0x40 → s.acc.length + b.length ≤ s.cfg.accCap →
      exec (.accFeed b) s = .next { s with acc := s.acc ++ b }) ∧
    (s.cfg.accCap < (if b.head? = some 0x40 then 0 else s.acc.length) + b.length →
      exec (.accFeed b) s = .next { s with acc := [], fltOvf := true, conds := s.conds ++ [.accOverflow] }))

/-- ACC.ISTERM, ACC.PAYLOAD, ACC.INTERIOR (40_frame_accumulator.md R72, R73, R74): pure reads; the value is recorded (log 9). -/
def Obligations.AccumulatorReads : Prop :=
  ∀ s : State,
    exec .accIsterm s = .next { s with results := s.results ++
      [.flag (decide (1 ≤ s.acc.length ∧ s.acc[s.acc.length - 1]? = some 0x4F))] } ∧
    exec .accPayload s = .next { s with results := s.results ++ [.bytes s.acc] } ∧
    exec .accInterior s = .next { s with results := s.results ++ [.bytes ((s.acc.drop 1).take (s.acc.length - 2))] }

/-- CK.COMPUTE (41_checksum_validator.md R80): the sum of `f[i]` for `1 <= i <= len(f) - 2`, modulo 256; the value is
recorded (log 9). -/
def Obligations.ChecksumIsTheSumModulo256 : Prop :=
  ∀ (f : List Byte) (s : State),
    exec (.ckCompute f) s = .next { s with results := s.results ++
      [.byte (BitVec.ofNat 8 (((List.range (f.length - 2)).map (fun k => (f.getD (k + 1) 0).toNat)).sum % 256))] }

/-- CK.VALIDATE (41_checksum_validator.md R81): match exactly when the received byte is the computed one; exactly one of
the 256 bytes matches; the verdict is recorded (log 9). -/
def Obligations.ChecksumValidationIsEquality : Prop :=
  (∀ (f : List Byte) (c : Byte) (s : State),
    exec (.ckValidate f c) s = .next { s with results := s.results ++
      [.verdict (if ((List.range (f.length - 2)).map (fun k => (f.getD (k + 1) 0).toNat)).sum % 256 = c.toNat
        then .matched else .mismatched)] }) ∧
  (∀ f : List Byte, ∃! c : Byte, ckValidate f c = .matched)

/-- RDPL(i) (44_connection_control.md R125); the value is recorded (log 9). -/
def Obligations.PayloadReadReturnsTheByte : Prop :=
  ∀ (n : Nat) (s : State),
    (∀ v : Byte, s.pstate = .complete → n < s.acc.length - 2 → s.acc[n + 1]? = some v →
      exec (.rdpl n) s = .next { s with results := s.results ++ [.byte v] }) ∧
    (s.pstate ≠ .complete ∨ s.acc.length - 2 ≤ n →
      exec (.rdpl n) s = .next { s with results := s.results ++ [.byte 0x00] })

/-- The STATUS word, field by field (10_state.md R17). -/
def Obligations.StatusWordLayout : Prop :=
  ∀ s : State, Memory.wf s.cfg s.acc →
    s.status.getLsbD 0 = s.conn ∧ s.status.getLsbD 1 = s.ack ∧ s.status.getLsbD 2 = s.tmrRun ∧
    s.status.getLsbD 3 = s.fltOvf ∧
    (s.status.extractLsb' 4 3).toNat =
      (match s.pstate with
        | .awaitingAck => 0 | .collectingData => 1 | .awaitingChecksum => 2 | .complete => 3 | .resendRequested => 4) ∧
    s.status.getLsbD 7 = decide (s.pstate = .complete) ∧
    (s.status.extractLsb' 8 8).toNat = 0 ∧
    (s.status.extractLsb' 16 s.cfg.accLenW).toNat = s.acc.length

/-! ### Whole-machine rules -/

/-- The invariant of 10_state.md R18: "After every step". Every step whose inputs are the environment's keeps it. -/
def Obligations.EveryStepKeepsTheInvariant : Prop :=
  ∀ s t : State, s.ArchInv → s.inboxExternal = true → step s = .next t → t.ArchInv ∧ t.inboxExternal = true

/-- The reset state meets the invariants and the constraints of 00_scope.md R6. -/
def Obligations.ResetMeetsTheInvariants : Prop :=
  State.reset.cfg.wf ∧ State.reset.ArchInv ∧ State.reset.PortInv ∧ State.reset.inboxExternal = true

/-- Every clock cycle keeps the port-level invariant: in particular the transmit queue never exceeds its depth, and no
frame had to be dropped for that (20_memory.md R46). -/
def Obligations.EveryCycleKeepsThePortInvariant : Prop :=
  ∀ (p : PortIn) (s : State), s.cfg.wf → s.PortInv → (portCycle p s).PortInv

/-- No operation, the internal ones included, writes the configuration or leaves `acc_len` above ACC_CAP (20_memory.md R31). -/
def Obligations.EveryOperationKeepsTheStore : Prop :=
  ∀ (i : Instr) (s t : State), Memory.wf s.cfg s.acc → exec i s = .next t → t.cfg = s.cfg ∧ Memory.wf t.cfg t.acc

/-- Within one connection `pstate` only moves forward; with RESEND_REENTRY = 1 there is the one backward edge out of
ResendRequested (10_state.md R13). -/
def Obligations.ProtocolStateMovesForward : Prop :=
  ∀ (i : Instr) (s t : State), i.inSession = true → s.ArchInv → exec i s = .next t →
    t.pstate = s.pstate ∨
    (s.pstate = .awaitingAck ∧ t.pstate = .collectingData) ∨
    (s.pstate = .collectingData ∧ t.pstate = .awaitingChecksum) ∨
    (s.pstate = .awaitingChecksum ∧ (t.pstate = .complete ∨ t.pstate = .resendRequested)) ∨
    (s.cfg.resendReentry = true ∧ s.pstate = .resendRequested ∧
      (t.pstate = .collectingData ∨ t.pstate = .awaitingChecksum))

/-- What one event emits (20_memory.md R40): at most one frame, one of the four of 30_encoding.md R61, and at most one
notification; both only in the acknowledgment step, ACKED first. And it reports at most one condition (60_exceptions.md R137). -/
def Obligations.OneEventEmitsAtMostOneFrameAndOneNotification : Prop :=
  ∀ (i : Instr) (s t : State), i.external = true → exec i s = .next t →
    (∃ es, t.trace = s.trace ++ es ∧
      (es = [] ∨ (∃ f, isBlockFrame f ∧ es = [.tx f]) ∨ (∃ p, es = [.ev (.payload p)]) ∨
        es = [.ev .acked, .tx [0x40, 0x01, 0x4F]])) ∧
    (∃ cs, t.conds = s.conds ++ cs ∧ cs.length ≤ 1)

/-- `flt_ovf` is never cleared by a CHUNK, a TICK, a DISCONNECT or a read: "only CONNECT and HRESET clear it"
(60_exceptions.md R134). -/
def Obligations.OverflowBitIsSticky : Prop :=
  ∀ (i : Instr) (s t : State), exec i s = .next t → s.fltOvf = true → t.fltOvf = false → i = .connect ∨ i = .hreset

/-- ACKED and PAYLOAD are each raised at most once per connection, whatever comes in and in whatever order
(60_exceptions.md R136, 43_protocol_engine.md R102), for both values of RESEND_REENTRY. -/
def Obligations.NotificationsAtMostOncePerConnection : Prop :=
  ∀ (es : List Instr) (s t : State), (∀ i ∈ es, i.inSession = true) → runOps (.connect :: es) s = .next t →
    ∃ ns, t.evTrace = s.evTrace ++ ns ∧ (ns = [] ∨ ns = [.acked] ∨ ∃ p, ns = [.acked, .payload p])

/-- The frames of one connection (43_protocol_engine.md R114), with RESEND_REENTRY = 0: time-sync frames, then an initial
part of DATAREQ, CHKREQ, RESEND, and no time-sync frame after the first of them. -/
def Obligations.FramesOfOneConnectionAreInOrder : Prop :=
  ∀ (es : List Instr) (s t : State), s.cfg.resendReentry = false → (∀ i ∈ es, i.inSession = true) →
    runOps (.connect :: es) s = .next t →
    ∃ (ts : List TimeSample) (rs : List Frame),
      t.txTrace = s.txTrace ++ ts.map timesyncFrame ++ rs ∧
      (rs = [] ∨ rs = [[0x40, 0x01, 0x4F]] ∨ rs = [[0x40, 0x01, 0x4F], [0x40, 0x02, 0x4F]] ∨
        rs = [[0x40, 0x01, 0x4F], [0x40, 0x02, 0x4F], [0x40, 0x04, 0x4F]])

/-- Chunk-size invariance (40_frame_accumulator.md R76): whatever the partition of a data frame into non-empty chunks and
whatever the accumulator held, the feeds leave the frame, terminated, and not terminated before the last of them. -/
def Obligations.AccumulationIsChunkSizeInvariant : Prop :=
  ∀ (p : List Byte) (bs : List (List Byte)) (s : State), (0x40 : Byte) ∉ p → (0x4F : Byte) ∉ p →
    p.length + 2 ≤ s.cfg.accCap → (∀ b ∈ bs, b ≠ []) → bs.flatten = [0x40] ++ p ++ [0x4F] →
    runOps (bs.map .accFeed) s = .next { s with acc := [0x40] ++ p ++ [0x4F] } ∧
    (∀ xs ys, bs = xs ++ ys → xs ≠ [] → ys ≠ [] →
      ∃ u, runOps (xs.map .accFeed) s = .next u ∧ u.acc.getLast? ≠ some 0x4F)

/-- The round trip (95_test_vectors.md S1, 70_reset_and_hazards.md R153): a payload of at most 255 bytes without marker
bytes, framed, cut into non-empty chunks anywhere, followed by its checksum frame, with time ticks anywhere between, is
delivered byte for byte; and the frame and the notification are all that is emitted. -/
def Obligations.RoundTripDeliversThePayload : Prop :=
  ∀ (p : List Byte) (bs : List (List Byte)) (c : Byte) (es : List Instr) (s : State),
    s.cfg.wf → s.conn = true → s.ack = true → s.pstate = .collectingData →
    (0x40 : Byte) ∉ p → (0x4F : Byte) ∉ p → p.length ≤ 255 →
    (∀ b ∈ bs, b ≠ []) → bs.flatten = [0x40] ++ p ++ [0x4F] → c.toNat = (p.map BitVec.toNat).sum % 256 →
    (∀ i ∈ es, i.chunkBytes.isSome = true ∨ ∃ t, i = .tick t) →
    es.filterMap Instr.chunkBytes = bs ++ [[0x40, c, 0x4F]] →
    ∃ t, runOps es s = .next t ∧ t.pstate = .complete ∧ t.acc = [0x40] ++ p ++ [0x4F] ∧
      t.trace = s.trace ++ [.tx [0x40, 0x02, 0x4F], .ev (.payload p)] ∧ t.fltOvf = s.fltOvf ∧ t.conds = s.conds

/-- Retries without limit (42_handshake_timer.md R92, 95_test_vectors.md S6): while no ack comes in, every tick sends one
time-sync frame of its own sample, and nothing else is emitted. -/
def Obligations.EveryTickRetriesUntilTheAck : Prop :=
  ∀ (es : List Instr) (s t : State), s.conn = true → s.tmrRun = true → s.ack = false →
    (∀ i ∈ es, i.inSession = true) →
    (∀ i ∈ es, ∀ b, i.chunkBytes = some b →
      ¬(3 ≤ b.length ∧ b[0]? = some 0x50 ∧ b[1]? = some 0x02 ∧ b.getLast? = some 0x5F)) →
    runOps es s = .next t →
    t.trace = s.trace ++ es.filterMap (fun i => match i with | .tick x => some (.tx (timesyncFrame x)) | _ => none) ∧
      t.ack = false ∧ t.tmrRun = true ∧ t.pstate = s.pstate ∧ t.acc = s.acc

/-- No timeout in AwaitingChecksum (43_protocol_engine.md R110, R116): as long as no checksum frame comes in, whatever else
does, the state and the frame buffer stay and nothing is emitted. -/
def Obligations.WaitsForTheChecksumFrame : Prop :=
  ∀ (es : List Instr) (s t : State), s.ack = true → s.pstate = .awaitingChecksum →
    (∀ i ∈ es, i.inSession = true) →
    (∀ i ∈ es, ∀ b, i.chunkBytes = some b → ¬(b.length = 3 ∧ b[0]? = some 0x40 ∧ b[2]? = some 0x4F)) →
    runOps es s = .next t →
    t.pstate = .awaitingChecksum ∧ t.acc = s.acc ∧ t.trace = s.trace

/-- Complete, and ResendRequested with RESEND_REENTRY = 0, are left by no chunk, tick or read (43_protocol_engine.md R111,
R112, 70_reset_and_hazards.md R155, R158): the payload stays readable and nothing is emitted. -/
def Obligations.TerminalStatesAreLeftOnlyByConnectionControl : Prop :=
  ∀ (es : List Instr) (s t : State), s.ack = true →
    (s.pstate = .complete ∨ s.pstate = .resendRequested ∧ s.cfg.resendReentry = false) →
    (∀ i ∈ es, i.inSession = true) → runOps es s = .next t →
    t.pstate = s.pstate ∧ t.acc = s.acc ∧ t.trace = s.trace

/-! ### The port level -/

/-- The port level is a realisation of the event level (00_scope.md R5, 20_memory.md R42): one clock cycle has on the event
level exactly the effect of the events of that cycle performed in the order HRESET alone, or DISCONNECT, CONNECT, the CHUNK
whose last byte is accepted, TICK with the cycle's own time sample; a TICK never while a chunk is in progress. There is no
CHUNK without a connection before the cycle, none for the rest of an abandoned chunk, and none for a chunk of which a byte
came before a CONNECT or DISCONNECT of the cycle (20_memory.md R45). Two readings of the model (log 14): within a
connection a chunk of one byte that comes with the CONNECT or DISCONNECT is after it (R42), and a byte that comes with
the CONNECT that begins a connection is one without a connection. -/
def Obligations.EveryCycleIsAScriptOfEvents : Prop :=
  ∀ (p : PortIn) (s : State),
    ∃ (tk : List Instr) (t : State),
      (tk = [] ∨ tk = [.tick p.rtc]) ∧
      (tk ≠ [] → p.rst = false ∧ (portCycle p s).rxBuf = []) ∧
      runOps
        (if p.rst then [.hreset]
          else (if p.connStop then [.disconnect] else []) ++ (if p.connStart then [.connect] else []) ++
            (match p.rx with
              | some (d, true) =>
                if s.rxReady = true ∧ s.conn = true ∧ s.rxAbandon = false ∧
                    (s.rxBuf = [] ∨ p.connStart = false ∧ p.connStop = false)
                then [.chunk (s.rxBuf ++ [d])] else []
              | _ => []) ++ tk) s = .next t ∧
      t.eventView = (portCycle p s).eventView

/-- The bytes of one chunk transferred in consecutive cycles, the last with `rx_last = 1`, are one CHUNK event, whatever the
timer does meanwhile: a tick that becomes ready waits for the chunk (20_memory.md R45, R42). -/
def Obligations.ChunkOverThePortIsOneEvent : Prop :=
  ∀ (ps : List PortIn) (xs : List Byte) (z : Byte) (s : State),
    s.rxBuf = [] → s.rxAbandon = false → s.conn = false ∨ s.txq.length < s.cfg.txqDepth →
    (∀ p ∈ ps, p.rst = false ∧ p.connStart = false ∧ p.connStop = false) →
    ps.map PortIn.rx = xs.map (fun d => some (d, false)) ++ [some (z, true)] →
    ∃ (tk : List Instr) (t : State), (tk = [] ∨ ∃ x, tk = [.tick x]) ∧
      runOps (.chunk (xs ++ [z]) :: tk) s = .next t ∧
      t.eventView = (runCycles ps s).eventView ∧ (runCycles ps s).rxBuf = []

/-- The remaining bytes of an abandoned chunk, up to and including the next `rx_last`, produce no CHUNK event
(20_memory.md R45): in any run of cycles without control events in which exactly these bytes are transferred on RX, with
or without idle cycles and stalls between them, whatever the timer does, the events are TICKs only, each with the sample
of one of the cycles. That a tick does not wait for discarded bytes is the model's reading (log 29), which this allows
and does not demand. -/
def Obligations.AbandonedChunkProducesNoEvent : Prop :=
  ∀ (ps : List PortIn) (xs : List Byte) (z : Byte) (s : State), s.rxBuf = [] → s.rxAbandon = true →
    (∀ p ∈ ps, p.rst = false ∧ p.connStart = false ∧ p.connStop = false) →
    rxTransfers ps s = xs.map (fun d => (d, false)) ++ [(z, true)] →
    ∃ (ts : List TimeSample) (t : State), ts.Sublist (ps.map PortIn.rtc) ∧ runOps (ts.map .tick) s = .next t ∧
      t.eventView = (runCycles ps s).eventView ∧ (runCycles ps s).rxAbandon = false ∧ (runCycles ps s).rxBuf = []

/-- The period (42_handshake_timer.md R89): from a counter value `k`, `k` quiet cycles emit nothing and the next one emits
one time-sync frame, with the sample of that cycle, and has the counter at TICK_DIV - 1 again. That the tick is processed
in the very cycle that finds the counter at 0 is the model's reading (log 16). -/
def Obligations.TimerFiresWhenItsCounterRunsOut : Prop :=
  ∀ (ps : List PortIn) (p : PortIn) (s : State),
    s.conn = true → s.tmrRun = true → s.ack = false → s.tickPending = false → s.rxBuf = [] →
    s.txq.length < s.cfg.txqDepth → ps.length = s.tmrCnt → (∀ q ∈ ps, q.quiet = true) → p.quiet = true →
    (runCycles ps s).trace = s.trace ∧
    (portCycle p (runCycles ps s)).trace = s.trace ++ [.tx (timesyncFrame p.rtc)] ∧
    (portCycle p (runCycles ps s)).tmrCnt = s.cfg.clkHz * 1000 / 1000 - 1 ∧
    (portCycle p (runCycles ps s)).tickPending = false

/-- The TX stream (20_memory.md R46): in a cycle without reset and DISCONNECT the byte shown on TX, with its `tx_last`, is
the next one still to be sent, at most that one leaves, and the frames emitted in the cycle join at the end, `tx_last` on
the final byte of each: nothing is dropped, reordered or interleaved, not by a CONNECT either (log 13). -/
def Obligations.TxStreamIsTheFramesInOrder : Prop :=
  ∀ (p : PortIn) (s : State), s.PortInv → p.rst = false → p.connStop = false →
    (portOut p s).tx = s.txPending.head? ∧
    ∃ es, (portCycle p s).trace = s.trace ++ es ∧
      (portCycle p s).txPending =
        (if p.txReady then s.txPending.drop 1 else s.txPending) ++ (framesOf es).flatMap frameOnTx

/-- A full transmit queue stalls the block (20_memory.md R46): `rx_ready = 0`, a ready tick stays pending, and in a cycle
without control events and without a transfer nothing happens at the event level. -/
def Obligations.FullQueueHoldsEventsBack : Prop :=
  ∀ (p : PortIn) (s : State), s.conn = true → s.txq.length = s.cfg.txqDepth →
    p.rst = false → p.connStart = false → p.connStop = false → p.txReady = false →
    (portOut p s).rxReady = false ∧ (portCycle p s).eventView = s.eventView ∧ (portCycle p s).rxBuf = s.rxBuf ∧
    (portCycle p s).txq = s.txq ∧ (s.tickPending = true → (portCycle p s).tickPending = true)

/-- The pulses of a cycle and the payload port (20_memory.md R44, R47): after a cycle without reset `ev_ack` shows whether
ACKED was emitted in it, `ev_payload` whether a PAYLOAD was, and then every byte of that payload is readable. -/
def Obligations.PulsesAndPayloadPortShowTheNotifications : Prop :=
  ∀ (p : PortIn) (s : State), p.rst = false →
    ∃ es, (portCycle p s).trace = s.trace ++ es ∧
      (∀ q, (portOut q (portCycle p s)).evAck = true ↔ .ev .acked ∈ es) ∧
      (∀ q, (portOut q (portCycle p s)).evPayload = true ↔ ∃ P, .ev (.payload P) ∈ es) ∧
      (∀ q P, .ev (.payload P) ∈ es → (portOut q (portCycle p s)).plLen = P.length ∧
        (portOut q (portCycle p s)).plData = P.getD q.plAddr 0)

/-- A cycle with `rst = 1` is HRESET "first and alone (the others are lost)" (20_memory.md R42), and leaves no chunk in
progress, an empty transmit queue and no pending tick (10_state.md R22). -/
def Obligations.ResetCycleIsHresetAlone : Prop :=
  ∀ (p : PortIn) (s : State), p.rst = true →
    ∃ t, exec .hreset s = .next t ∧ (portCycle p s).eventView = t.eventView ∧
      (portCycle p s).rxBuf = [] ∧ (portCycle p s).txq = [] ∧ (portCycle p s).tickPending = false

/-- The recognisers need only what the holding registers of 10_state.md R19 hold: with the last byte `z` of a chunk, bytes 0
and 1 and the saturating length decide `isAck` and `isCk`; and the running checksum register decides CK.COMPUTE of a
terminated frame of at least two bytes. -/
def Obligations.HiddenRegistersSuffice : Prop :=
  (∀ (z : Byte) (s : State),
    (isAck (s.rxBuf ++ [z]) = true ↔
      2 ≤ s.rxSatLen ∧ s.rxHold0 = some 0x50 ∧ s.rxHold1 = some 0x02 ∧ z = 0x5F) ∧
    (isCk (s.rxBuf ++ [z]) = true ↔ s.rxSatLen = 2 ∧ s.rxHold0 = some 0x40 ∧ z = 0x4F)) ∧
  (∀ s : State, 2 ≤ s.acc.length → s.isTerm = true → ckCompute s.acc = s.runningSum - 0x4F)

/-- Bytes without a connection, and a chunk in progress when CONNECT or DISCONNECT occurs (20_memory.md R45,
44_connection_control.md R124). In a cycle without reset, when there is no connection before it or after it, or when a
CONNECT comes while a chunk is in progress or being discarded, the cycle is its DISCONNECT and CONNECT and nothing else at
the event level, whichever byte is transferred in it: no byte is kept, and the bytes of the chunk still to come are
discarded up to and including the next `rx_last`. Three of its clauses are the model's readings: a byte transferred in
the cycle of the CONNECT itself, with `conn = 0` before it, is one of those without a connection (log 14); the rest of a
chunk begun without a connection is discarded after a CONNECT too (log 25); and a tick that is pending or becomes ready in
the cycle of a CONNECT or DISCONNECT is cancelled by it, so that no TICK is among the events of the cycle (log 17). -/
def Obligations.NoByteOutlivesItsConnection : Prop :=
  ∀ (p : PortIn) (s : State), s.ArchInv → s.PortInv → p.rst = false →
    s.conn = false ∨ p.connStop = true ∧ p.connStart = false ∨
      p.connStart = true ∧ (s.rxBuf ≠ [] ∨ s.rxAbandon = true) →
    ∃ t,
      runOps ((if p.connStop then [.disconnect] else []) ++ (if p.connStart then [.connect] else [])) s = .next t ∧
      t.eventView = (portCycle p s).eventView ∧
      (portCycle p s).rxBuf = [] ∧
      (portCycle p s).rxAbandon =
        (match rxTransfer p s with
          | some (_, true) => false
          | some (_, false) => true
          | none => s.rxAbandon || !s.rxBuf.isEmpty)
end

