-- ==== Sys2Proof/Laws/Decode.lean ====
section
/-! SUPPORT. The operand forms of the descriptors: what is encoded is decoded, and nothing else is. -/

namespace Sys2Proof

@[simp] theorem decodeSeq_encodeSeq (bs : List Byte) : decodeSeq (encodeSeq bs) = .ok bs := by
  induction bs with
  | nil => simp [encodeSeq, decodeSeq]
  | cons b bs ih => simp [encodeSeq, decodeSeq, ih]

@[simp] theorem decodeCount_encodeCount (n : Nat) : decodeCount (encodeCount n) = .ok n := by
  induction n with
  | zero => simp [encodeCount, decodeCount]
  | succ n ih => simp [encodeCount, decodeCount, ih]

/-- Each byte string is the encoding of at most one sequence. -/
theorem encodeSeq_of_decodeSeq {d bs : List Byte} (h : decodeSeq d = .ok bs) : encodeSeq bs = d := by
  match d, h with
  | [], h => simp [decodeSeq] at h
  | [x], h =>
    simp only [decodeSeq] at h
    split at h
    · next h0 => simp at h; subst h; simp [encodeSeq, h0]
    · split at h <;> simp at h
  | x :: b :: rest, h =>
    simp only [decodeSeq] at h
    split at h
    · next h1 =>
      cases hd : decodeSeq rest with
      | error e => simp [hd] at h
      | ok cs => simp [hd] at h; subst h; simp [encodeSeq, encodeSeq_of_decodeSeq hd, h1]
    · split at h <;> simp at h

/-- Each byte string is the encoding of at most one number. -/
theorem encodeCount_of_decodeCount {d : List Byte} {n : Nat} (h : decodeCount d = .ok n) : encodeCount n = d := by
  induction d generalizing n with
  | nil => simp [decodeCount] at h
  | cons x rest ih =>
    simp only [decodeCount] at h
    split at h
    · next h1 =>
      cases hd : decodeCount rest with
      | error e => simp [hd] at h
      | ok m => simp [hd] at h; subst h; simp [encodeCount, ih hd, h1]
    · split at h
      · next h0 =>
        cases rest <;> simp at h
        subst h; simp [encodeCount, h0]
      · simp at h

/-! ### The table's numbers -/

/-- What `decodeTableWord` answers is a reading, and the first row's. -/
theorem mem_tableReadings_of_decodeTableWord {nbits w : Nat} {i : Instr} (h : decodeTableWord nbits w = some i) :
    i ∈ tableReadings nbits w := by
  unfold decodeTableWord tableDescriptor at h
  cases hd : tableDescriptors nbits w with
  | nil => simp [hd] at h
  | cons d ds => simp [hd] at h; simp [tableReadings, hd, h]

/-- A reading is the operation of a row that the number matches. -/
theorem mem_tableReadings_iff (nbits w : Nat) (i : Instr) :
    i ∈ tableReadings nbits w ↔
      ∃ r ∈ tableRows, r.matches nbits w = true ∧ (decode (r.descriptor w)).toOption = some i := by
  simp [tableReadings, tableDescriptors, and_assoc]

/-- The two bytes of the year are the year. -/
@[simp] theorem year_bytes (t : TimeSample) : (yearHigh t ++ yearLow t : BitVec 16) = t.year := by
  apply BitVec.eq_of_getLsbD_eq
  intro i hi
  simp only [BitVec.getLsbD_append, yearHigh, yearLow, BitVec.getLsbD_extractLsb']
  by_cases h : i < 8
  · simp [h]
  · simp only [h, ↓reduceIte]
    have : i - 8 < 8 := by omega
    simp [this]; congr 1; omega

end Sys2Proof
end

