-- ==== Sys2Proof/Laws/Memory.lean ====
section
/-! SUPPORT. Laws of the accumulator store: append, read after append, the canonical form. -/

namespace Sys2Proof.Machine

/-- ACC.APPEND's result (40_frame_accumulator.md R71): `acc[0..acc_len) ++ b`. -/
@[simp] theorem Memory.append_eq (m : Memory) (b : List Byte) : Memory.append m b = m ++ b := by
  induction b generalizing m with
  | nil => simp [Memory.append]
  | cons x xs ih =>
    have h : Memory.append m (x :: xs) = Memory.append (Memory.push m x) xs := rfl
    rw [h, ih]; simp [Memory.push]

/-- Reading what was appended gives it back. -/
theorem Memory.read_append_new (m : Memory) (b : List Byte) (i : Nat) :
    Memory.read (Memory.append m b) (m.length + i) = b[i]? := by
  simp [Memory.read, List.getElem?_append_right]

/-- An append leaves every byte below `acc_len` alone. -/
theorem Memory.read_append_old (m : Memory) (b : List Byte) (i : Nat) (h : i < m.length) :
    Memory.read (Memory.append m b) i = Memory.read m i := by
  simp [Memory.read, List.getElem?_append_left h]

/-- No byte stands at or above `acc_len`. -/
theorem Memory.read_none_iff (m : Memory) (i : Nat) : Memory.read m i = none ↔ m.length ≤ i := by
  simp [Memory.read]

/-- The last byte, as ACC.ISTERM reads it (40_frame_accumulator.md R72). -/
theorem Memory.read_last (m : Memory) : Memory.read m (m.length - 1) = m.getLast? := by
  simp [Memory.read, List.getLast?_eq_getElem?]

/-- The cells' addresses are `0, 1, ..., acc_len - 1`. -/
theorem Memory.cells_addresses (m : Memory) : (Memory.cells m).map Prod.fst = List.range m.length := by
  simp only [Memory.cells, List.map_map]
  exact List.zipIdx_map_snd 0 m |>.trans (by simp [List.range_eq_range'])

/-- The cells stand in strictly rising order of address. -/
theorem Memory.cells_rising (m : Memory) : ((Memory.cells m).map Prod.fst).Pairwise (· < ·) := by
  rw [Memory.cells_addresses]; exact List.pairwise_lt_range

/-- Equal cells are equal memories: the form is canonical. -/
theorem Memory.cells_injective (m n : Memory) (h : Memory.cells m = Memory.cells n) : m = n := by
  have h' := congrArg (List.map Prod.snd) h
  simpa [Memory.cells, Function.comp_def] using h'

/-- ACC.RESET keeps the canonical form. -/
theorem Memory.wf_clear (c : Config) : Memory.wf c [] := Nat.zero_le _

/-- An append under its precondition keeps the canonical form. -/
theorem Memory.wf_append (c : Config) (m : Memory) (b : List Byte) (h : m.length + b.length ≤ c.accCap) :
    Memory.wf c (Memory.append m b) := by
  simpa [Memory.wf] using h

end Sys2Proof.Machine
end

