-- ==== Sys2Proof/Laws/Operands.lean ====
section
/-! SUPPORT. What the recognisers and the checksum say, in the words of the rules. -/

namespace Sys2Proof.Machine

theorem lastIs_iff (b : List Byte) (v : Byte) : lastIs b v = true ↔ b.getLast? = some v := by
  simp [lastIs]

theorem firstIs_iff (b : List Byte) (v : Byte) : firstIs b v = true ↔ b.head? = some v := by
  simp [firstIs]

/-- `isAck` (30_encoding.md R52). -/
theorem isAck_iff (b : List Byte) :
    isAck b = true ↔ 3 ≤ b.length ∧ b[0]? = some 0x50 ∧ b[1]? = some 0x02 ∧ b.getLast? = some 0x5F := by
  simp [isAck, firstIs, lastIs, List.head?_eq_getElem?, and_assoc, sofCmd, ackCode, eofCmd]

/-- `isCk` (30_encoding.md R53). -/
theorem isCk_iff (b : List Byte) : isCk b = true ↔ ∃ c, b = [0x40, c, 0x4F] := by
  constructor
  · intro h
    simp only [isCk, firstIs, lastIs, Bool.and_eq_true, decide_eq_true_eq, beq_iff_eq] at h
    obtain ⟨⟨h3, h0⟩, h2⟩ := h
    match b, h3 with
    | [x, y, z], _ => simp_all [sofData, eofData]
  · rintro ⟨c, rfl⟩; simp [isCk, firstIs, lastIs, sofData, eofData]

theorem isCk_frame (c : Byte) : isCk [sofData, c, eofData] = true := by simp [isCk, firstIs, lastIs]

theorem ckByte_frame (c : Byte) : ckByte [sofData, c, eofData] = c := rfl

/-- The interior by positions: `f[1 .. len(f)-1)` (30_encoding.md R58). -/
theorem interior_eq (f : List Byte) : interior f = (f.drop 1).take (f.length - 2) := by
  simp [interior, List.dropLast_eq_take]; omega

/-- The interior of a data frame is its payload (30_encoding.md R54). -/
@[simp] theorem interior_dataFrame (p : List Byte) : interior (dataFrame p) = p := by
  simp [interior, dataFrame]

theorem foldl_add_toNat (l : List Byte) (a : Byte) :
    (l.foldl (fun s x => s + x) a).toNat = (a.toNat + (l.map BitVec.toNat).sum) % 256 := by
  induction l generalizing a with
  | nil => simp; omega
  | cons x xs ih => simp [ih]; omega

/-- CK.COMPUTE is the sum of the interior modulo 256 (41_checksum_validator.md R80). -/
theorem ckCompute_toNat (f : List Byte) :
    (ckCompute f).toNat = ((interior f).map BitVec.toNat).sum % 256 := by
  simp [ckCompute, foldl_add_toNat]

theorem ckValidate_iff (f : List Byte) (c : Byte) : ckValidate f c = .matched ↔ ckCompute f = c := by
  simp only [ckValidate]; split <;> simp_all

/-- `YY = year mod 256` (30_encoding.md R56). -/
theorem yearLow_eq (t : TimeSample) : yearLow t = BitVec.ofNat 8 (t.year.toNat % 256) := by
  apply BitVec.eq_of_toNat_eq; simp [yearLow]

end Sys2Proof.Machine
end

