-- ==== Sys2Proof/Laws/State.lean ====
section
/-! SUPPORT. One lemma for each field of each shared operation on the state. -/

namespace Sys2Proof.Machine

section
variable (f : Frame) (s : State)
@[simp] theorem State.emitTx_cfg : (s.emitTx f).cfg = s.cfg := rfl
@[simp] theorem State.emitTx_conn : (s.emitTx f).conn = s.conn := rfl
@[simp] theorem State.emitTx_pstate : (s.emitTx f).pstate = s.pstate := rfl
@[simp] theorem State.emitTx_ack : (s.emitTx f).ack = s.ack := rfl
@[simp] theorem State.emitTx_acc : (s.emitTx f).acc = s.acc := rfl
@[simp] theorem State.emitTx_tmrRun : (s.emitTx f).tmrRun = s.tmrRun := rfl
@[simp] theorem State.emitTx_tmrCnt : (s.emitTx f).tmrCnt = s.tmrCnt := rfl
@[simp] theorem State.emitTx_fltOvf : (s.emitTx f).fltOvf = s.fltOvf := rfl
@[simp] theorem State.emitTx_rxBuf : (s.emitTx f).rxBuf = s.rxBuf := rfl
@[simp] theorem State.emitTx_rxAbandon : (s.emitTx f).rxAbandon = s.rxAbandon := rfl
@[simp] theorem State.emitTx_txq : (s.emitTx f).txq = s.txq ++ [f] := rfl
@[simp] theorem State.emitTx_txPos : (s.emitTx f).txPos = s.txPos := rfl
@[simp] theorem State.emitTx_tickPending : (s.emitTx f).tickPending = s.tickPending := rfl
@[simp] theorem State.emitTx_evAck : (s.emitTx f).evAck = s.evAck := rfl
@[simp] theorem State.emitTx_evPayload : (s.emitTx f).evPayload = s.evPayload := rfl
@[simp] theorem State.emitTx_trace : (s.emitTx f).trace = s.trace ++ [.tx f] := rfl
@[simp] theorem State.emitTx_conds : (s.emitTx f).conds = s.conds := rfl
@[simp] theorem State.emitTx_results : (s.emitTx f).results = s.results := rfl
@[simp] theorem State.emitTx_outTrace : (s.emitTx f).outTrace = s.outTrace := rfl
@[simp] theorem State.emitTx_freeIdx : (s.emitTx f).freeIdx = s.freeIdx := rfl
@[simp] theorem State.emitTx_inbox : (s.emitTx f).inbox = s.inbox := rfl
end

section
variable (s : State)
@[simp] theorem State.emitAcked_cfg : (s.emitAcked).cfg = s.cfg := rfl
@[simp] theorem State.emitAcked_conn : (s.emitAcked).conn = s.conn := rfl
@[simp] theorem State.emitAcked_pstate : (s.emitAcked).pstate = s.pstate := rfl
@[simp] theorem State.emitAcked_ack : (s.emitAcked).ack = s.ack := rfl
@[simp] theorem State.emitAcked_acc : (s.emitAcked).acc = s.acc := rfl
@[simp] theorem State.emitAcked_tmrRun : (s.emitAcked).tmrRun = s.tmrRun := rfl
@[simp] theorem State.emitAcked_tmrCnt : (s.emitAcked).tmrCnt = s.tmrCnt := rfl
@[simp] theorem State.emitAcked_fltOvf : (s.emitAcked).fltOvf = s.fltOvf := rfl
@[simp] theorem State.emitAcked_rxBuf : (s.emitAcked).rxBuf = s.rxBuf := rfl
@[simp] theorem State.emitAcked_rxAbandon : (s.emitAcked).rxAbandon = s.rxAbandon := rfl
@[simp] theorem State.emitAcked_txq : (s.emitAcked).txq = s.txq := rfl
@[simp] theorem State.emitAcked_txPos : (s.emitAcked).txPos = s.txPos := rfl
@[simp] theorem State.emitAcked_tickPending : (s.emitAcked).tickPending = s.tickPending := rfl
@[simp] theorem State.emitAcked_evAck : (s.emitAcked).evAck = true := rfl
@[simp] theorem State.emitAcked_evPayload : (s.emitAcked).evPayload = s.evPayload := rfl
@[simp] theorem State.emitAcked_trace : (s.emitAcked).trace = s.trace ++ [.ev .acked] := rfl
@[simp] theorem State.emitAcked_conds : (s.emitAcked).conds = s.conds := rfl
@[simp] theorem State.emitAcked_results : (s.emitAcked).results = s.results := rfl
@[simp] theorem State.emitAcked_outTrace : (s.emitAcked).outTrace = s.outTrace := rfl
@[simp] theorem State.emitAcked_freeIdx : (s.emitAcked).freeIdx = s.freeIdx := rfl
@[simp] theorem State.emitAcked_inbox : (s.emitAcked).inbox = s.inbox := rfl
end

section
variable (p : List Byte) (s : State)
@[simp] theorem State.emitPayload_cfg : (s.emitPayload p).cfg = s.cfg := rfl
@[simp] theorem State.emitPayload_conn : (s.emitPayload p).conn = s.conn := rfl
@[simp] theorem State.emitPayload_pstate : (s.emitPayload p).pstate = s.pstate := rfl
@[simp] theorem State.emitPayload_ack : (s.emitPayload p).ack = s.ack := rfl
@[simp] theorem State.emitPayload_acc : (s.emitPayload p).acc = s.acc := rfl
@[simp] theorem State.emitPayload_tmrRun : (s.emitPayload p).tmrRun = s.tmrRun := rfl
@[simp] theorem State.emitPayload_tmrCnt : (s.emitPayload p).tmrCnt = s.tmrCnt := rfl
@[simp] theorem State.emitPayload_fltOvf : (s.emitPayload p).fltOvf = s.fltOvf := rfl
@[simp] theorem State.emitPayload_rxBuf : (s.emitPayload p).rxBuf = s.rxBuf := rfl
@[simp] theorem State.emitPayload_rxAbandon : (s.emitPayload p).rxAbandon = s.rxAbandon := rfl
@[simp] theorem State.emitPayload_txq : (s.emitPayload p).txq = s.txq := rfl
@[simp] theorem State.emitPayload_txPos : (s.emitPayload p).txPos = s.txPos := rfl
@[simp] theorem State.emitPayload_tickPending : (s.emitPayload p).tickPending = s.tickPending := rfl
@[simp] theorem State.emitPayload_evAck : (s.emitPayload p).evAck = s.evAck := rfl
@[simp] theorem State.emitPayload_evPayload : (s.emitPayload p).evPayload = true := rfl
@[simp] theorem State.emitPayload_trace : (s.emitPayload p).trace = s.trace ++ [.ev (.payload p)] := rfl
@[simp] theorem State.emitPayload_conds : (s.emitPayload p).conds = s.conds := rfl
@[simp] theorem State.emitPayload_results : (s.emitPayload p).results = s.results := rfl
@[simp] theorem State.emitPayload_outTrace : (s.emitPayload p).outTrace = s.outTrace := rfl
@[simp] theorem State.emitPayload_freeIdx : (s.emitPayload p).freeIdx = s.freeIdx := rfl
@[simp] theorem State.emitPayload_inbox : (s.emitPayload p).inbox = s.inbox := rfl
end

section
variable (c : Condition) (s : State)
@[simp] theorem State.raise_cfg : (s.raise c).cfg = s.cfg := rfl
@[simp] theorem State.raise_conn : (s.raise c).conn = s.conn := rfl
@[simp] theorem State.raise_pstate : (s.raise c).pstate = s.pstate := rfl
@[simp] theorem State.raise_ack : (s.raise c).ack = s.ack := rfl
@[simp] theorem State.raise_acc : (s.raise c).acc = s.acc := rfl
@[simp] theorem State.raise_tmrRun : (s.raise c).tmrRun = s.tmrRun := rfl
@[simp] theorem State.raise_tmrCnt : (s.raise c).tmrCnt = s.tmrCnt := rfl
@[simp] theorem State.raise_fltOvf : (s.raise c).fltOvf = s.fltOvf := rfl
@[simp] theorem State.raise_rxBuf : (s.raise c).rxBuf = s.rxBuf := rfl
@[simp] theorem State.raise_rxAbandon : (s.raise c).rxAbandon = s.rxAbandon := rfl
@[simp] theorem State.raise_txq : (s.raise c).txq = s.txq := rfl
@[simp] theorem State.raise_txPos : (s.raise c).txPos = s.txPos := rfl
@[simp] theorem State.raise_tickPending : (s.raise c).tickPending = s.tickPending := rfl
@[simp] theorem State.raise_evAck : (s.raise c).evAck = s.evAck := rfl
@[simp] theorem State.raise_evPayload : (s.raise c).evPayload = s.evPayload := rfl
@[simp] theorem State.raise_trace : (s.raise c).trace = s.trace := rfl
@[simp] theorem State.raise_conds : (s.raise c).conds = s.conds ++ [c] := rfl
@[simp] theorem State.raise_results : (s.raise c).results = s.results := rfl
@[simp] theorem State.raise_outTrace : (s.raise c).outTrace = s.outTrace := rfl
@[simp] theorem State.raise_freeIdx : (s.raise c).freeIdx = s.freeIdx := rfl
@[simp] theorem State.raise_inbox : (s.raise c).inbox = s.inbox := rfl
end

section
variable (r : Result) (s : State)
@[simp] theorem State.record_cfg : (s.record r).cfg = s.cfg := rfl
@[simp] theorem State.record_conn : (s.record r).conn = s.conn := rfl
@[simp] theorem State.record_pstate : (s.record r).pstate = s.pstate := rfl
@[simp] theorem State.record_ack : (s.record r).ack = s.ack := rfl
@[simp] theorem State.record_acc : (s.record r).acc = s.acc := rfl
@[simp] theorem State.record_tmrRun : (s.record r).tmrRun = s.tmrRun := rfl
@[simp] theorem State.record_tmrCnt : (s.record r).tmrCnt = s.tmrCnt := rfl
@[simp] theorem State.record_fltOvf : (s.record r).fltOvf = s.fltOvf := rfl
@[simp] theorem State.record_rxBuf : (s.record r).rxBuf = s.rxBuf := rfl
@[simp] theorem State.record_rxAbandon : (s.record r).rxAbandon = s.rxAbandon := rfl
@[simp] theorem State.record_txq : (s.record r).txq = s.txq := rfl
@[simp] theorem State.record_txPos : (s.record r).txPos = s.txPos := rfl
@[simp] theorem State.record_tickPending : (s.record r).tickPending = s.tickPending := rfl
@[simp] theorem State.record_evAck : (s.record r).evAck = s.evAck := rfl
@[simp] theorem State.record_evPayload : (s.record r).evPayload = s.evPayload := rfl
@[simp] theorem State.record_trace : (s.record r).trace = s.trace := rfl
@[simp] theorem State.record_conds : (s.record r).conds = s.conds := rfl
@[simp] theorem State.record_results : (s.record r).results = s.results ++ [r] := rfl
@[simp] theorem State.record_outTrace : (s.record r).outTrace = s.outTrace := rfl
@[simp] theorem State.record_freeIdx : (s.record r).freeIdx = s.freeIdx := rfl
@[simp] theorem State.record_inbox : (s.record r).inbox = s.inbox := rfl
end

section
variable (s : State)
@[simp] theorem State.clearAcc_cfg : (s.clearAcc).cfg = s.cfg := rfl
@[simp] theorem State.clearAcc_conn : (s.clearAcc).conn = s.conn := rfl
@[simp] theorem State.clearAcc_pstate : (s.clearAcc).pstate = s.pstate := rfl
@[simp] theorem State.clearAcc_ack : (s.clearAcc).ack = s.ack := rfl
@[simp] theorem State.clearAcc_acc : (s.clearAcc).acc = [] := rfl
@[simp] theorem State.clearAcc_tmrRun : (s.clearAcc).tmrRun = s.tmrRun := rfl
@[simp] theorem State.clearAcc_tmrCnt : (s.clearAcc).tmrCnt = s.tmrCnt := rfl
@[simp] theorem State.clearAcc_fltOvf : (s.clearAcc).fltOvf = s.fltOvf := rfl
@[simp] theorem State.clearAcc_rxBuf : (s.clearAcc).rxBuf = s.rxBuf := rfl
@[simp] theorem State.clearAcc_rxAbandon : (s.clearAcc).rxAbandon = s.rxAbandon := rfl
@[simp] theorem State.clearAcc_txq : (s.clearAcc).txq = s.txq := rfl
@[simp] theorem State.clearAcc_txPos : (s.clearAcc).txPos = s.txPos := rfl
@[simp] theorem State.clearAcc_tickPending : (s.clearAcc).tickPending = s.tickPending := rfl
@[simp] theorem State.clearAcc_evAck : (s.clearAcc).evAck = s.evAck := rfl
@[simp] theorem State.clearAcc_evPayload : (s.clearAcc).evPayload = s.evPayload := rfl
@[simp] theorem State.clearAcc_trace : (s.clearAcc).trace = s.trace := rfl
@[simp] theorem State.clearAcc_conds : (s.clearAcc).conds = s.conds := rfl
@[simp] theorem State.clearAcc_results : (s.clearAcc).results = s.results := rfl
@[simp] theorem State.clearAcc_outTrace : (s.clearAcc).outTrace = s.outTrace := rfl
@[simp] theorem State.clearAcc_freeIdx : (s.clearAcc).freeIdx = s.freeIdx := rfl
@[simp] theorem State.clearAcc_inbox : (s.clearAcc).inbox = s.inbox := rfl
end

section
variable (b : List Byte) (s : State)
@[simp] theorem State.appendAcc_cfg : (s.appendAcc b).cfg = s.cfg := rfl
@[simp] theorem State.appendAcc_conn : (s.appendAcc b).conn = s.conn := rfl
@[simp] theorem State.appendAcc_pstate : (s.appendAcc b).pstate = s.pstate := rfl
@[simp] theorem State.appendAcc_ack : (s.appendAcc b).ack = s.ack := rfl
@[simp] theorem State.appendAcc_acc : (s.appendAcc b).acc = Memory.append s.acc b := rfl
@[simp] theorem State.appendAcc_tmrRun : (s.appendAcc b).tmrRun = s.tmrRun := rfl
@[simp] theorem State.appendAcc_tmrCnt : (s.appendAcc b).tmrCnt = s.tmrCnt := rfl
@[simp] theorem State.appendAcc_fltOvf : (s.appendAcc b).fltOvf = s.fltOvf := rfl
@[simp] theorem State.appendAcc_rxBuf : (s.appendAcc b).rxBuf = s.rxBuf := rfl
@[simp] theorem State.appendAcc_rxAbandon : (s.appendAcc b).rxAbandon = s.rxAbandon := rfl
@[simp] theorem State.appendAcc_txq : (s.appendAcc b).txq = s.txq := rfl
@[simp] theorem State.appendAcc_txPos : (s.appendAcc b).txPos = s.txPos := rfl
@[simp] theorem State.appendAcc_tickPending : (s.appendAcc b).tickPending = s.tickPending := rfl
@[simp] theorem State.appendAcc_evAck : (s.appendAcc b).evAck = s.evAck := rfl
@[simp] theorem State.appendAcc_evPayload : (s.appendAcc b).evPayload = s.evPayload := rfl
@[simp] theorem State.appendAcc_trace : (s.appendAcc b).trace = s.trace := rfl
@[simp] theorem State.appendAcc_conds : (s.appendAcc b).conds = s.conds := rfl
@[simp] theorem State.appendAcc_results : (s.appendAcc b).results = s.results := rfl
@[simp] theorem State.appendAcc_outTrace : (s.appendAcc b).outTrace = s.outTrace := rfl
@[simp] theorem State.appendAcc_freeIdx : (s.appendAcc b).freeIdx = s.freeIdx := rfl
@[simp] theorem State.appendAcc_inbox : (s.appendAcc b).inbox = s.inbox := rfl
end

section
variable (s : State)
@[simp] theorem State.startTimer_cfg : (s.startTimer).cfg = s.cfg := rfl
@[simp] theorem State.startTimer_conn : (s.startTimer).conn = s.conn := rfl
@[simp] theorem State.startTimer_pstate : (s.startTimer).pstate = s.pstate := rfl
@[simp] theorem State.startTimer_ack : (s.startTimer).ack = s.ack := rfl
@[simp] theorem State.startTimer_acc : (s.startTimer).acc = s.acc := rfl
@[simp] theorem State.startTimer_tmrRun : (s.startTimer).tmrRun = true := rfl
@[simp] theorem State.startTimer_tmrCnt : (s.startTimer).tmrCnt = s.cfg.firstDelayCycles - 1 := rfl
@[simp] theorem State.startTimer_fltOvf : (s.startTimer).fltOvf = s.fltOvf := rfl
@[simp] theorem State.startTimer_rxBuf : (s.startTimer).rxBuf = s.rxBuf := rfl
@[simp] theorem State.startTimer_rxAbandon : (s.startTimer).rxAbandon = s.rxAbandon := rfl
@[simp] theorem State.startTimer_txq : (s.startTimer).txq = s.txq := rfl
@[simp] theorem State.startTimer_txPos : (s.startTimer).txPos = s.txPos := rfl
@[simp] theorem State.startTimer_tickPending : (s.startTimer).tickPending = s.tickPending := rfl
@[simp] theorem State.startTimer_evAck : (s.startTimer).evAck = s.evAck := rfl
@[simp] theorem State.startTimer_evPayload : (s.startTimer).evPayload = s.evPayload := rfl
@[simp] theorem State.startTimer_trace : (s.startTimer).trace = s.trace := rfl
@[simp] theorem State.startTimer_conds : (s.startTimer).conds = s.conds := rfl
@[simp] theorem State.startTimer_results : (s.startTimer).results = s.results := rfl
@[simp] theorem State.startTimer_outTrace : (s.startTimer).outTrace = s.outTrace := rfl
@[simp] theorem State.startTimer_freeIdx : (s.startTimer).freeIdx = s.freeIdx := rfl
@[simp] theorem State.startTimer_inbox : (s.startTimer).inbox = s.inbox := rfl
end

section
variable (s : State)
@[simp] theorem State.stopTimer_cfg : (s.stopTimer).cfg = s.cfg := rfl
@[simp] theorem State.stopTimer_conn : (s.stopTimer).conn = s.conn := rfl
@[simp] theorem State.stopTimer_pstate : (s.stopTimer).pstate = s.pstate := rfl
@[simp] theorem State.stopTimer_ack : (s.stopTimer).ack = s.ack := rfl
@[simp] theorem State.stopTimer_acc : (s.stopTimer).acc = s.acc := rfl
@[simp] theorem State.stopTimer_tmrRun : (s.stopTimer).tmrRun = false := rfl
@[simp] theorem State.stopTimer_tmrCnt : (s.stopTimer).tmrCnt = (if s.tmrRun then s.freeCnt else s.tmrCnt) := rfl
@[simp] theorem State.stopTimer_fltOvf : (s.stopTimer).fltOvf = s.fltOvf := rfl
@[simp] theorem State.stopTimer_rxBuf : (s.stopTimer).rxBuf = s.rxBuf := rfl
@[simp] theorem State.stopTimer_rxAbandon : (s.stopTimer).rxAbandon = s.rxAbandon := rfl
@[simp] theorem State.stopTimer_txq : (s.stopTimer).txq = s.txq := rfl
@[simp] theorem State.stopTimer_txPos : (s.stopTimer).txPos = s.txPos := rfl
@[simp] theorem State.stopTimer_tickPending : (s.stopTimer).tickPending = false := rfl
@[simp] theorem State.stopTimer_evAck : (s.stopTimer).evAck = s.evAck := rfl
@[simp] theorem State.stopTimer_evPayload : (s.stopTimer).evPayload = s.evPayload := rfl
@[simp] theorem State.stopTimer_trace : (s.stopTimer).trace = s.trace := rfl
@[simp] theorem State.stopTimer_conds : (s.stopTimer).conds = s.conds := rfl
@[simp] theorem State.stopTimer_results : (s.stopTimer).results = s.results := rfl
@[simp] theorem State.stopTimer_outTrace : (s.stopTimer).outTrace = s.outTrace := rfl
@[simp] theorem State.stopTimer_freeIdx : (s.stopTimer).freeIdx = (if s.tmrRun then s.freeIdx + 1 else s.freeIdx) := rfl
@[simp] theorem State.stopTimer_inbox : (s.stopTimer).inbox = s.inbox := rfl
end

section
variable (s : State)
@[simp] theorem State.reloadTimer_cfg : (s.reloadTimer).cfg = s.cfg := rfl
@[simp] theorem State.reloadTimer_conn : (s.reloadTimer).conn = s.conn := rfl
@[simp] theorem State.reloadTimer_pstate : (s.reloadTimer).pstate = s.pstate := rfl
@[simp] theorem State.reloadTimer_ack : (s.reloadTimer).ack = s.ack := rfl
@[simp] theorem State.reloadTimer_acc : (s.reloadTimer).acc = s.acc := rfl
@[simp] theorem State.reloadTimer_tmrRun : (s.reloadTimer).tmrRun = s.tmrRun := rfl
@[simp] theorem State.reloadTimer_tmrCnt : (s.reloadTimer).tmrCnt = s.cfg.tickDiv - 1 := rfl
@[simp] theorem State.reloadTimer_fltOvf : (s.reloadTimer).fltOvf = s.fltOvf := rfl
@[simp] theorem State.reloadTimer_rxBuf : (s.reloadTimer).rxBuf = s.rxBuf := rfl
@[simp] theorem State.reloadTimer_rxAbandon : (s.reloadTimer).rxAbandon = s.rxAbandon := rfl
@[simp] theorem State.reloadTimer_txq : (s.reloadTimer).txq = s.txq := rfl
@[simp] theorem State.reloadTimer_txPos : (s.reloadTimer).txPos = s.txPos := rfl
@[simp] theorem State.reloadTimer_tickPending : (s.reloadTimer).tickPending = s.tickPending := rfl
@[simp] theorem State.reloadTimer_evAck : (s.reloadTimer).evAck = s.evAck := rfl
@[simp] theorem State.reloadTimer_evPayload : (s.reloadTimer).evPayload = s.evPayload := rfl
@[simp] theorem State.reloadTimer_trace : (s.reloadTimer).trace = s.trace := rfl
@[simp] theorem State.reloadTimer_conds : (s.reloadTimer).conds = s.conds := rfl
@[simp] theorem State.reloadTimer_results : (s.reloadTimer).results = s.results := rfl
@[simp] theorem State.reloadTimer_outTrace : (s.reloadTimer).outTrace = s.outTrace := rfl
@[simp] theorem State.reloadTimer_freeIdx : (s.reloadTimer).freeIdx = s.freeIdx := rfl
@[simp] theorem State.reloadTimer_inbox : (s.reloadTimer).inbox = s.inbox := rfl
end

section
variable (s : State)
@[simp] theorem State.abandonChunk_cfg : (s.abandonChunk).cfg = s.cfg := rfl
@[simp] theorem State.abandonChunk_conn : (s.abandonChunk).conn = s.conn := rfl
@[simp] theorem State.abandonChunk_pstate : (s.abandonChunk).pstate = s.pstate := rfl
@[simp] theorem State.abandonChunk_ack : (s.abandonChunk).ack = s.ack := rfl
@[simp] theorem State.abandonChunk_acc : (s.abandonChunk).acc = s.acc := rfl
@[simp] theorem State.abandonChunk_tmrRun : (s.abandonChunk).tmrRun = s.tmrRun := rfl
@[simp] theorem State.abandonChunk_tmrCnt : (s.abandonChunk).tmrCnt = s.tmrCnt := rfl
@[simp] theorem State.abandonChunk_fltOvf : (s.abandonChunk).fltOvf = s.fltOvf := rfl
@[simp] theorem State.abandonChunk_rxBuf : (s.abandonChunk).rxBuf = [] := rfl
@[simp] theorem State.abandonChunk_rxAbandon : (s.abandonChunk).rxAbandon = (s.rxAbandon || !s.rxBuf.isEmpty) := rfl
@[simp] theorem State.abandonChunk_txq : (s.abandonChunk).txq = s.txq := rfl
@[simp] theorem State.abandonChunk_txPos : (s.abandonChunk).txPos = s.txPos := rfl
@[simp] theorem State.abandonChunk_tickPending : (s.abandonChunk).tickPending = s.tickPending := rfl
@[simp] theorem State.abandonChunk_evAck : (s.abandonChunk).evAck = s.evAck := rfl
@[simp] theorem State.abandonChunk_evPayload : (s.abandonChunk).evPayload = s.evPayload := rfl
@[simp] theorem State.abandonChunk_trace : (s.abandonChunk).trace = s.trace := rfl
@[simp] theorem State.abandonChunk_conds : (s.abandonChunk).conds = s.conds := rfl
@[simp] theorem State.abandonChunk_results : (s.abandonChunk).results = s.results := rfl
@[simp] theorem State.abandonChunk_outTrace : (s.abandonChunk).outTrace = s.outTrace := rfl
@[simp] theorem State.abandonChunk_freeIdx : (s.abandonChunk).freeIdx = s.freeIdx := rfl
@[simp] theorem State.abandonChunk_inbox : (s.abandonChunk).inbox = s.inbox := rfl
end

section
variable (s : State)
@[simp] theorem State.flushTx_cfg : (s.flushTx).cfg = s.cfg := rfl
@[simp] theorem State.flushTx_conn : (s.flushTx).conn = s.conn := rfl
@[simp] theorem State.flushTx_pstate : (s.flushTx).pstate = s.pstate := rfl
@[simp] theorem State.flushTx_ack : (s.flushTx).ack = s.ack := rfl
@[simp] theorem State.flushTx_acc : (s.flushTx).acc = s.acc := rfl
@[simp] theorem State.flushTx_tmrRun : (s.flushTx).tmrRun = s.tmrRun := rfl
@[simp] theorem State.flushTx_tmrCnt : (s.flushTx).tmrCnt = s.tmrCnt := rfl
@[simp] theorem State.flushTx_fltOvf : (s.flushTx).fltOvf = s.fltOvf := rfl
@[simp] theorem State.flushTx_rxBuf : (s.flushTx).rxBuf = s.rxBuf := rfl
@[simp] theorem State.flushTx_rxAbandon : (s.flushTx).rxAbandon = s.rxAbandon := rfl
@[simp] theorem State.flushTx_txq : (s.flushTx).txq = [] := rfl
@[simp] theorem State.flushTx_txPos : (s.flushTx).txPos = 0 := rfl
@[simp] theorem State.flushTx_tickPending : (s.flushTx).tickPending = s.tickPending := rfl
@[simp] theorem State.flushTx_evAck : (s.flushTx).evAck = s.evAck := rfl
@[simp] theorem State.flushTx_evPayload : (s.flushTx).evPayload = s.evPayload := rfl
@[simp] theorem State.flushTx_trace : (s.flushTx).trace = s.trace := rfl
@[simp] theorem State.flushTx_conds : (s.flushTx).conds = s.conds := rfl
@[simp] theorem State.flushTx_results : (s.flushTx).results = s.results := rfl
@[simp] theorem State.flushTx_outTrace : (s.flushTx).outTrace = s.outTrace := rfl
@[simp] theorem State.flushTx_freeIdx : (s.flushTx).freeIdx = s.freeIdx := rfl
@[simp] theorem State.flushTx_inbox : (s.flushTx).inbox = s.inbox := rfl
end

section
variable (s : State)
@[simp] theorem State.overflow_cfg : (s.overflow).cfg = s.cfg := rfl
@[simp] theorem State.overflow_conn : (s.overflow).conn = s.conn := rfl
@[simp] theorem State.overflow_pstate : (s.overflow).pstate = s.pstate := rfl
@[simp] theorem State.overflow_ack : (s.overflow).ack = s.ack := rfl
@[simp] theorem State.overflow_acc : (s.overflow).acc = [] := rfl
@[simp] theorem State.overflow_tmrRun : (s.overflow).tmrRun = s.tmrRun := rfl
@[simp] theorem State.overflow_tmrCnt : (s.overflow).tmrCnt = s.tmrCnt := rfl
@[simp] theorem State.overflow_fltOvf : (s.overflow).fltOvf = true := rfl
@[simp] theorem State.overflow_rxBuf : (s.overflow).rxBuf = s.rxBuf := rfl
@[simp] theorem State.overflow_rxAbandon : (s.overflow).rxAbandon = s.rxAbandon := rfl
@[simp] theorem State.overflow_txq : (s.overflow).txq = s.txq := rfl
@[simp] theorem State.overflow_txPos : (s.overflow).txPos = s.txPos := rfl
@[simp] theorem State.overflow_tickPending : (s.overflow).tickPending = s.tickPending := rfl
@[simp] theorem State.overflow_evAck : (s.overflow).evAck = s.evAck := rfl
@[simp] theorem State.overflow_evPayload : (s.overflow).evPayload = s.evPayload := rfl
@[simp] theorem State.overflow_trace : (s.overflow).trace = s.trace := rfl
@[simp] theorem State.overflow_conds : (s.overflow).conds = s.conds ++ [.accOverflow] := rfl
@[simp] theorem State.overflow_results : (s.overflow).results = s.results := rfl
@[simp] theorem State.overflow_outTrace : (s.overflow).outTrace = s.outTrace := rfl
@[simp] theorem State.overflow_freeIdx : (s.overflow).freeIdx = s.freeIdx := rfl
@[simp] theorem State.overflow_inbox : (s.overflow).inbox = s.inbox := rfl
end

section
variable (s : State)
@[simp] theorem State.takeInput_cfg : (s.takeInput).cfg = s.cfg := rfl
@[simp] theorem State.takeInput_conn : (s.takeInput).conn = s.conn := rfl
@[simp] theorem State.takeInput_pstate : (s.takeInput).pstate = s.pstate := rfl
@[simp] theorem State.takeInput_ack : (s.takeInput).ack = s.ack := rfl
@[simp] theorem State.takeInput_acc : (s.takeInput).acc = s.acc := rfl
@[simp] theorem State.takeInput_tmrRun : (s.takeInput).tmrRun = s.tmrRun := rfl
@[simp] theorem State.takeInput_tmrCnt : (s.takeInput).tmrCnt = s.tmrCnt := rfl
@[simp] theorem State.takeInput_fltOvf : (s.takeInput).fltOvf = s.fltOvf := rfl
@[simp] theorem State.takeInput_rxBuf : (s.takeInput).rxBuf = s.rxBuf := rfl
@[simp] theorem State.takeInput_rxAbandon : (s.takeInput).rxAbandon = s.rxAbandon := rfl
@[simp] theorem State.takeInput_txq : (s.takeInput).txq = s.txq := rfl
@[simp] theorem State.takeInput_txPos : (s.takeInput).txPos = s.txPos := rfl
@[simp] theorem State.takeInput_tickPending : (s.takeInput).tickPending = s.tickPending := rfl
@[simp] theorem State.takeInput_evAck : (s.takeInput).evAck = s.evAck := rfl
@[simp] theorem State.takeInput_evPayload : (s.takeInput).evPayload = s.evPayload := rfl
@[simp] theorem State.takeInput_trace : (s.takeInput).trace = s.trace := rfl
@[simp] theorem State.takeInput_conds : (s.takeInput).conds = s.conds := rfl
@[simp] theorem State.takeInput_results : (s.takeInput).results = s.results := rfl
@[simp] theorem State.takeInput_outTrace : (s.takeInput).outTrace = s.outTrace := rfl
@[simp] theorem State.takeInput_freeIdx : (s.takeInput).freeIdx = s.freeIdx := rfl
@[simp] theorem State.takeInput_inbox : (s.takeInput).inbox = s.inbox.tail := rfl
end

/-! The two trace views after an emission. -/

@[simp] theorem State.emitTx_txTrace (f : Frame) (s : State) : (s.emitTx f).txTrace = s.txTrace ++ [f] := by
  simp [State.txTrace]

@[simp] theorem State.emitTx_evTrace (f : Frame) (s : State) : (s.emitTx f).evTrace = s.evTrace := by
  simp [State.evTrace]

@[simp] theorem State.emitAcked_txTrace (s : State) : s.emitAcked.txTrace = s.txTrace := by
  simp [State.txTrace]

@[simp] theorem State.emitAcked_evTrace (s : State) : s.emitAcked.evTrace = s.evTrace ++ [.acked] := by
  simp [State.evTrace]

@[simp] theorem State.emitPayload_txTrace (p : List Byte) (s : State) : (s.emitPayload p).txTrace = s.txTrace := by
  simp [State.txTrace]

@[simp] theorem State.emitPayload_evTrace (p : List Byte) (s : State) :
    (s.emitPayload p).evTrace = s.evTrace ++ [.payload p] := by
  simp [State.evTrace]

end Sys2Proof.Machine
end

