-- ==== Sys2Proof/Laws/Engine.lean ====
section
/-! SUPPORT. What a feed and a CHUNK step can do, said once. -/

namespace Sys2Proof.Machine

/-- The accumulator after a feed that fits (40_frame_accumulator.md R75). -/
def fedAcc (b : List Byte) (s : State) : Memory := if firstIs b sofData then b else s.acc ++ b

theorem accFeed_fits {b : List Byte} {s : State} (h : feedFits b s = true) :
    accFeed b s = { s with acc := fedAcc b s } := by
  simp only [accFeed, h, if_true, fedAcc]
  split <;> simp [State.appendAcc, State.clearAcc]

theorem accFeed_overflows {b : List Byte} {s : State} (h : feedFits b s = false) :
    accFeed b s = { s with acc := [], fltOvf := true, conds := s.conds ++ [.accOverflow] } := by
  simp [accFeed, h, State.overflow, State.raise, State.clearAcc]

/-- A feed that fits leaves the last byte of the chunk last (43_protocol_engine.md R104 (b)). -/
theorem fedAcc_getLast {b : List Byte} {s : State} (hb : b ≠ []) : (fedAcc b s).getLast? = b.getLast? := by
  simp only [fedAcc]
  split
  · rfl
  · cases b with
    | nil => exact absurd rfl hb
    | cons x xs => simp [List.getLast?_append, List.getLast?_cons]

theorem fedAcc_length {b : List Byte} {s : State} : (fedAcc b s).length = feedBase b s + b.length := by
  simp only [fedAcc, feedBase]; split <;> simp [State.accLen]

theorem feedFits_iff {b : List Byte} {s : State} :
    feedFits b s = true ↔ (fedAcc b s).length ≤ s.cfg.accCap := by
  simp [feedFits, fedAcc_length]

/-- Collecting a chunk that does not end with the end marker (43_protocol_engine.md R104). -/
theorem collect_goes_on {b : List Byte} {s : State} (hb : b ≠ []) (h : feedFits b s = true)
    (ht : b.getLast? ≠ some eofData) : collect b s = { s with acc := fedAcc b s } := by
  have : lastIs (fedAcc b s) eofData = false := by
    rw [← Bool.not_eq_true, lastIs_iff, fedAcc_getLast hb]; exact ht
  simp [collect, h, accFeed_fits h, afterFeed, State.isTerm, this]

/-- Collecting a chunk that ends with the end marker (43_protocol_engine.md R104, R105). -/
theorem collect_terminates {b : List Byte} {s : State} (hb : b ≠ []) (h : feedFits b s = true)
    (ht : b.getLast? = some eofData) :
    collect b s =
      { s with
        acc := fedAcc b s
        pstate := .awaitingChecksum
        trace := s.trace ++ [.tx chkReqFrame]
        txq := s.txq ++ [chkReqFrame] } := by
  have : lastIs (fedAcc b s) eofData = true := by rw [lastIs_iff, fedAcc_getLast hb]; exact ht
  simp [collect, h, accFeed_fits h, afterFeed, State.isTerm, this, State.emitTx]

/-- Collecting a chunk that does not fit (43_protocol_engine.md R106). -/
theorem collect_overflows {b : List Byte} {s : State} (h : feedFits b s = false) :
    collect b s = { s with acc := [], fltOvf := true, conds := s.conds ++ [.accOverflow] } := by
  simp [collect, h, accFeed_overflows h]

/-- Everything collecting can do. -/
theorem collect_cases {b : List Byte} (s : State) (hb : b ≠ []) :
    (feedFits b s = false ∧
      collect b s = { s with acc := [], fltOvf := true, conds := s.conds ++ [.accOverflow] }) ∨
    (feedFits b s = true ∧ b.getLast? ≠ some eofData ∧ collect b s = { s with acc := fedAcc b s }) ∨
    (feedFits b s = true ∧ b.getLast? = some eofData ∧
      collect b s =
        { s with
          acc := fedAcc b s
          pstate := .awaitingChecksum
          trace := s.trace ++ [.tx chkReqFrame]
          txq := s.txq ++ [chkReqFrame] }) := by
  cases h : feedFits b s with
  | false => exact .inl ⟨rfl, collect_overflows h⟩
  | true =>
    by_cases ht : b.getLast? = some eofData
    · exact .inr (.inr ⟨rfl, ht, collect_terminates hb h ht⟩)
    · exact .inr (.inl ⟨rfl, ht, collect_goes_on hb h ht⟩)

theorem acknowledge_eq (s : State) :
    acknowledge s =
      { s with
        ack := true
        pstate := .collectingData
        trace := s.trace ++ [.ev .acked, .tx dataReqFrame]
        txq := s.txq ++ [dataReqFrame]
        evAck := true } := by
  simp [acknowledge, State.emitAcked, State.emitTx]

theorem validated_eq (s : State) :
    validated s =
      { s with
        pstate := .complete
        trace := s.trace ++ [.ev (.payload (interior s.acc))]
        evPayload := true } := rfl

theorem mismatched_eq (s : State) :
    mismatched s =
      { s with
        pstate := .resendRequested
        acc := []
        trace := s.trace ++ [.tx resendFrame]
        txq := s.txq ++ [resendFrame]
        conds := s.conds ++ [.checksumMismatch] } := rfl

theorem dropUnrec_eq (s : State) : dropUnrec s = { s with conds := s.conds ++ [.protocolDesync] } := rfl

/-- Everything a CHUNK step can do, with the guard of each case (43_protocol_engine.md R100). -/
theorem chunkStep_cases (b : List Byte) (s : State) :
    ((s.conn = false ∨ b = []) ∧ chunkStep b s = s) ∨
    (s.conn = true ∧ b ≠ [] ∧ s.ack = false ∧ isAck b = true ∧ chunkStep b s = acknowledge s) ∨
    (s.conn = true ∧ b ≠ [] ∧ s.ack = false ∧ isAck b = false ∧ chunkStep b s = dropUnrec s) ∨
    (s.conn = true ∧ b ≠ [] ∧ s.ack = true ∧ s.pstate = .collectingData ∧ chunkStep b s = collect b s) ∨
    (s.conn = true ∧ b ≠ [] ∧ s.ack = true ∧ s.pstate = .awaitingChecksum ∧ isCk b = true ∧
      ckCompute s.acc = ckByte b ∧ chunkStep b s = validated s) ∨
    (s.conn = true ∧ b ≠ [] ∧ s.ack = true ∧ s.pstate = .awaitingChecksum ∧ isCk b = true ∧
      ckCompute s.acc ≠ ckByte b ∧ chunkStep b s = mismatched s) ∨
    (s.conn = true ∧ b ≠ [] ∧ s.ack = true ∧ s.pstate = .resendRequested ∧ s.cfg.resendReentry = true ∧
      firstIs b sofData = true ∧ chunkStep b s = collect b { s with pstate := .collectingData }) ∨
    (s.conn = true ∧ b ≠ [] ∧ s.ack = true ∧
      (s.pstate = .awaitingAck ∨ (s.pstate = .awaitingChecksum ∧ isCk b = false) ∨ s.pstate = .complete ∨
        (s.pstate = .resendRequested ∧ (s.cfg.resendReentry && firstIs b sofData) = false)) ∧
      chunkStep b s = dropUnrec s) := by
  cases hc : s.conn with
  | false => simp [chunkStep, hc]
  | true =>
    by_cases hb : b = []
    · simp [chunkStep, hb]
    · cases ha : s.ack with
      | false => cases h : isAck b <;> simp [chunkStep, hc, hb, ha, h]
      | true =>
        cases hp : s.pstate with
        | awaitingAck | complete => simp [chunkStep, hc, hb, ha, hp]
        | collectingData => simp [chunkStep, hc, hb, ha, hp]
        | awaitingChecksum =>
          cases h : isCk b with
          | false => simp [chunkStep, hc, hb, ha, hp, h]
          | true =>
            by_cases hv : ckCompute s.acc = ckByte b <;> simp [chunkStep, hc, hb, ha, hp, h, ckValidate, hv]
        | resendRequested =>
          cases h : s.cfg.resendReentry <;> cases h' : firstIs b sofData <;>
            simp [chunkStep, hc, hb, ha, hp, h, h']

end Sys2Proof.Machine
end

