-- ==== Sys2Proof/Laws/Exec.lean ====
section
/-! SUPPORT. What exec does, said once: every operation completes, a chunk delivery is the CHUNK step, a session
operation is one of three. -/

namespace Sys2Proof.Machine

/-- An operation that delivers a chunk is the CHUNK step on its bytes. -/
theorem exec_of_chunkBytes {i : Instr} {b : List Byte} (h : i.chunkBytes = some b) (s : State) :
    exec i s = .next (chunkStep b s) := by
  cases i <;> simp [Instr.chunkBytes] at h <;> subst h <;> rfl

/-- The state after an operation. -/
def after (i : Instr) (s : State) : State :=
  match exec i s with
  | .next t => t
  | .fault _ => s
  | .refused _ => s

/-- Every operation completes. -/
theorem exec_eq_after (i : Instr) (s : State) : exec i s = .next (after i s) := by
  cases i <;> rfl

/-- An operation within a connection is a chunk delivery, a tick or a payload read. -/
theorem inSession_cases {i : Instr} (h : i.inSession = true) :
    (∃ b, i.chunkBytes = some b) ∨ (∃ t, i = .tick t) ∨ (∃ n, i = .rdpl n) := by
  cases i <;> simp [Instr.inSession, Instr.chunkBytes] at h ⊢

/-- An operation of the environment is one of these or controls the connection. -/
theorem external_cases {i : Instr} (h : i.external = true) :
    i = .hreset ∨ i = .connect ∨ i = .disconnect ∨ i.inSession = true := by
  cases i <;> simp [Instr.external, Instr.inSession] at h ⊢

theorem after_of_chunkBytes {i : Instr} {b : List Byte} (h : i.chunkBytes = some b) (s : State) :
    after i s = chunkStep b s := by
  simp [after, exec_of_chunkBytes h]

@[simp] theorem after_tick (t : TimeSample) (s : State) : after (.tick t) s = tickStep t s := rfl
@[simp] theorem after_rdpl (n : Nat) (s : State) :
    after (.rdpl n) s = s.record (.byte (s.readPayload n)) := rfl
@[simp] theorem after_hreset (s : State) : after .hreset s = hresetStep s := rfl
@[simp] theorem after_connect (s : State) : after .connect s = connectStep s := rfl
@[simp] theorem after_disconnect (s : State) : after .disconnect s = disconnectStep s := rfl

/-- A script is the fold of its operations. -/
theorem runOps_eq (is : List Instr) (s : State) : runOps is s = .next (is.foldl (fun s i => after i s) s) := by
  induction is generalizing s with
  | nil => rfl
  | cons i is ih => simp [runOps, exec_eq_after i s, ih]

/-- A script in two parts. -/
theorem runOps_append (xs ys : List Instr) (s : State) :
    runOps (xs ++ ys) s = runOps ys (xs.foldl (fun s i => after i s) s) := by
  simp [runOps_eq]

/-- Induction over a script: a property that every operation of the script keeps holds at its end. -/
theorem runOps_induct {P : State → Prop} {is : List Instr} {s t : State} (h : runOps is s = .next t) (h0 : P s)
    (hstep : ∀ i ∈ is, ∀ u, P u → P (after i u)) : P t := by
  rw [runOps_eq] at h
  injection h with h
  subst h
  induction is generalizing s with
  | nil => exact h0
  | cons i is ih =>
    exact ih (hstep i (by simp) s h0) (fun j hj => hstep j (List.mem_cons_of_mem _ hj))

/-- Everything a tick can do (42_handshake_timer.md R87). -/
theorem tickStep_cases (t : TimeSample) (s : State) :
    ((s.conn = false ∨ s.tmrRun = false) ∧ tickStep t s = s) ∨
    (s.conn = true ∧ s.tmrRun = true ∧ s.ack = false ∧ tickStep t s = s.reloadTimer.emitTx (timesyncFrame t)) ∨
    (s.conn = true ∧ s.tmrRun = true ∧ s.ack = true ∧ tickStep t s = s.stopTimer) := by
  cases hc : s.conn <;> cases hr : s.tmrRun <;> cases ha : s.ack <;>
    simp [tickStep, fireTick, State.tickEnabled, hc, hr, ha]

end Sys2Proof.Machine
end

