-- ==== Sys2Proof/Laws/PerInstr.lean ====
section
/-! SUPPORT. Per-instruction family RoundTrip: the decoder reads back every operation with legal operands. -/

namespace Sys2Proof.Laws.RoundTrip

/-- An operation whose operands its row admits is what its descriptor decodes to. -/
def Statement (i : Instr) : Prop := i.operandsOk = true → decode (encode i) = .ok i

theorem hreset : Statement .hreset := fun _ => rfl
theorem connect : Statement .connect := fun _ => rfl
theorem disconnect : Statement .disconnect := fun _ => rfl
theorem tick (t : TimeSample) : Statement (.tick t) := by
  intro _; simp [encode, decode, Instr.code, Instr.operandBytes, decodeRow, decodeTick]
theorem chunk (b : List Byte) : Statement (.chunk b) := by
  intro _; simp [encode, decode, Instr.code, Instr.operandBytes, decodeRow, decodeBytes]
theorem txTimesync (t : TimeSample) : Statement (.txTimesync t) := by
  intro _
  simp [encode, decode, Instr.code, Instr.operandBytes, decodeRow, decodeTimesync, timesyncFrame]
theorem txDatareq : Statement .txDatareq := fun _ => rfl
theorem txChkreq : Statement .txChkreq := fun _ => rfl
theorem txResend : Statement .txResend := fun _ => rfl
theorem rxAck (body : List Byte) : Statement (.rxAck body) := by
  intro _; simp [encode, decode, Instr.code, Instr.operandBytes, decodeRow, decodeAck, decodeBytes]
theorem rxDataStart (rest : List Byte) : Statement (.rxDataStart rest) := by
  intro _; simp [encode, decode, Instr.code, Instr.operandBytes, decodeRow, decodeDataStart, decodeBytes]
theorem rxDataCont (first : Byte) (rest : List Byte) : Statement (.rxDataCont first rest) := by
  intro h
  have h : first ≠ sofData := by simpa [Instr.operandsOk] using h
  simp [encode, decode, Instr.code, Instr.operandBytes, decodeRow, decodeDataCont, decodeBytes, h]
theorem rxChksum (c : Byte) : Statement (.rxChksum c) := by
  intro _; simp [encode, decode, Instr.code, Instr.operandBytes, decodeRow, decodeChksum]
theorem rxUnrec (b : List Byte) : Statement (.rxUnrec b) := by
  intro h
  cases b with
  | nil => simp [Instr.operandsOk] at h
  | cons x xs => simp [encode, decode, Instr.code, Instr.operandBytes, decodeRow, decodeBytesOne]
theorem rxEmpty : Statement .rxEmpty := fun _ => rfl
theorem accReset : Statement .accReset := fun _ => rfl
theorem accAppend (b : List Byte) : Statement (.accAppend b) := by
  intro _; simp [encode, decode, Instr.code, Instr.operandBytes, decodeRow, decodeBytes]
theorem accIsterm : Statement .accIsterm := fun _ => rfl
theorem accPayload : Statement .accPayload := fun _ => rfl
theorem accInterior : Statement .accInterior := fun _ => rfl
theorem accFeed (b : List Byte) : Statement (.accFeed b) := by
  intro h
  cases b with
  | nil => simp [Instr.operandsOk] at h
  | cons x xs => simp [encode, decode, Instr.code, Instr.operandBytes, decodeRow, decodeBytesOne]
theorem ckCompute (f : List Byte) : Statement (.ckCompute f) := by
  intro _; simp [encode, decode, Instr.code, Instr.operandBytes, decodeRow, decodeBytes]
theorem ckValidate (f : List Byte) (c : Byte) : Statement (.ckValidate f c) := by
  intro _; simp [encode, decode, Instr.code, Instr.operandBytes, decodeRow, decodeByteBytes, decodeBytes]
theorem tmrStart : Statement .tmrStart := fun _ => rfl
theorem tmrStop : Statement .tmrStop := fun _ => rfl
theorem rdpl (n : Nat) : Statement (.rdpl n) := by
  intro _; simp [encode, decode, Instr.code, Instr.operandBytes, decodeRow, decodeIndex]
theorem ack : Statement .ack := fun _ => rfl
theorem data (p : List Byte) : Statement (.data p) := by
  intro _; simp [encode, decode, Instr.code, Instr.operandBytes, decodeRow, decodeBytes]
theorem cksum (c : Byte) : Statement (.cksum c) := by
  intro _; simp [encode, decode, Instr.code, Instr.operandBytes, decodeRow, decodeByte]

end Sys2Proof.Laws.RoundTrip
end

