-- ==== Sys2Proof/Laws/Port.lean ====
section
/-! SUPPORT. What the parts of a clock cycle leave unchanged, said once for each part; and that the event-level steps
depend on nothing below the event level. -/

namespace Sys2Proof.Machine

/-! ### The event-level view -/

/-- Same event-level view and same configuration. -/
def SameEvents (s t : State) : Prop := s.eventView = t.eventView ∧ s.cfg = t.cfg

theorem SameEvents.rfl' (s : State) : SameEvents s s := ⟨rfl, rfl⟩

theorem SameEvents.trans' {s t u : State} (h : SameEvents s t) (h' : SameEvents t u) : SameEvents s u :=
  ⟨h.1.trans h'.1, h.2.trans h'.2⟩

/-- The fields that the view is made of. -/
theorem sameEvents_iff (s t : State) :
    SameEvents s t ↔ s.conn = t.conn ∧ s.pstate = t.pstate ∧ s.ack = t.ack ∧ s.acc = t.acc ∧ s.tmrRun = t.tmrRun ∧
      s.fltOvf = t.fltOvf ∧ s.trace = t.trace ∧ s.conds = t.conds ∧ s.cfg = t.cfg := by
  simp [SameEvents, State.eventView, and_assoc]

theorem cycleStart_same (p : PortIn) (s : State) : SameEvents (cycleStart p s) s := ⟨rfl, rfl⟩

theorem txTransfer_same (r : Bool) (s : State) : SameEvents (txTransfer r s) s := by
  unfold txTransfer; split
  · exact ⟨rfl, rfl⟩
  · split
    · split <;> exact ⟨rfl, rfl⟩
    · exact ⟨rfl, rfl⟩

theorem rxClose_same (x : Option (Byte × Bool)) (s : State) : SameEvents (rxClose x s) s := by
  unfold rxClose; split <;> exact ⟨rfl, rfl⟩

theorem rxKeep_same (g : Bool) (x : Option (Byte × Bool)) (s : State) : SameEvents (rxKeep g x s) s := by
  unfold rxKeep; split
  · split <;> exact ⟨rfl, rfl⟩
  · exact ⟨rfl, rfl⟩

theorem rxLost_same (x : Option (Byte × Bool)) (s : State) : SameEvents (rxLost x s) s := by
  unfold rxLost; split <;> exact ⟨rfl, rfl⟩

theorem timerClock_same (s : State) : SameEvents (timerClock s) s := by
  unfold timerClock; split
  · split <;> exact ⟨rfl, rfl⟩
  · exact ⟨rfl, rfl⟩

theorem hresetStep_same {s t : State} (h : SameEvents s t) : SameEvents (hresetStep s) (hresetStep t) := by
  rw [sameEvents_iff] at h ⊢; simp [hresetStep, h]

theorem connectStep_same {s t : State} (h : SameEvents s t) : SameEvents (connectStep s) (connectStep t) := by
  rw [sameEvents_iff] at h ⊢
  simp [connectStep, h]

theorem disconnectStep_same {s t : State} (h : SameEvents s t) : SameEvents (disconnectStep s) (disconnectStep t) := by
  rw [sameEvents_iff] at h ⊢; simp [disconnectStep, h]

theorem fireTick_same (x : TimeSample) {s t : State} (h : SameEvents s t) : SameEvents (fireTick x s) (fireTick x t) := by
  have h' := (sameEvents_iff s t).1 h
  have hd : s.tickEnabled = t.tickEnabled := by simp [State.tickEnabled, h']
  unfold fireTick; rw [hd, h'.2.2.1]
  split
  · split <;> (rw [sameEvents_iff]; simp [h'])
  · exact h

/-- TICK as one event and the port-level firing differ in the counter only (log 16). -/
theorem tickStep_same (x : TimeSample) (s : State) : SameEvents (tickStep x s) (fireTick x s) := by
  unfold tickStep; split
  · exact fireTick_same x ⟨rfl, rfl⟩
  · exact ⟨rfl, rfl⟩

theorem collect_same (b : List Byte) {s t : State} (h : SameEvents s t) : SameEvents (collect b s) (collect b t) := by
  have h' := (sameEvents_iff s t).1 h
  have hf : feedFits b s = feedFits b t := by
    unfold feedFits feedBase State.accLen; rw [h'.2.2.2.1, h'.2.2.2.2.2.2.2.2]
  have ha : fedAcc b s = fedAcc b t := by simp [fedAcc, h']
  cases hfit : feedFits b t with
  | false =>
    rw [collect_overflows (hf.trans hfit), collect_overflows hfit, sameEvents_iff]; simp [h']
  | true =>
    have e : SameEvents (accFeed b s) (accFeed b t) := by
      rw [accFeed_fits (hf.trans hfit), accFeed_fits hfit, sameEvents_iff]; simp [h', ha]
    have e' := (sameEvents_iff _ _).1 e
    unfold collect
    rw [hf, hfit, if_pos rfl, if_pos rfl]
    unfold afterFeed State.isTerm
    rw [e'.2.2.2.1]
    split
    · rw [sameEvents_iff]; simp [e']
    · exact e

theorem chunkStep_same (b : List Byte) {s t : State} (h : SameEvents s t) :
    SameEvents (chunkStep b s) (chunkStep b t) := by
  have h' := (sameEvents_iff s t).1 h
  have hd : SameEvents (dropUnrec s) (dropUnrec t) := by simp [sameEvents_iff, dropUnrec_eq, h']
  unfold chunkStep
  rw [h'.1, h'.2.1, h'.2.2.1, h'.2.2.2.1, h'.2.2.2.2.2.2.2.2]
  split
  · exact h
  · split
    · exact h
    · split
      · split
        · simp [sameEvents_iff, acknowledge_eq, h']
        · exact hd
      · split
        · exact hd
        · exact collect_same b h
        · split
          · split
            · simp [sameEvents_iff, validated_eq, h']
            · simp [sameEvents_iff, mismatched_eq, h']
          · exact hd
        · exact hd
        · split
          · exact collect_same b (by simp [sameEvents_iff, h'])
          · exact hd

/-! ### The configuration and the inputs still to come -/

theorem fireTick_kept (x : TimeSample) (s : State) :
    (fireTick x s).cfg = s.cfg ∧ (fireTick x s).inbox = s.inbox := by
  unfold fireTick; split
  · split <;> simp
  · simp

theorem collect_kept (b : List Byte) (s : State) : (collect b s).cfg = s.cfg ∧ (collect b s).inbox = s.inbox := by
  unfold collect afterFeed accFeed
  constructor <;> (repeat' split) <;> simp

theorem chunkStep_kept (b : List Byte) (s : State) :
    (chunkStep b s).cfg = s.cfg ∧ (chunkStep b s).inbox = s.inbox := by
  rcases chunkStep_cases b s with ⟨_, e⟩ | ⟨_, _, _, _, e⟩ | ⟨_, _, _, _, e⟩ | ⟨_, _, _, _, e⟩ | ⟨_, _, _, _, _, _, e⟩ |
    ⟨_, _, _, _, _, _, e⟩ | ⟨_, _, _, _, _, _, e⟩ | ⟨_, _, _, _, e⟩ <;> rw [e]
  · simp
  · simp [acknowledge_eq]
  · simp [dropUnrec_eq]
  · exact collect_kept _ _
  · simp [validated_eq]
  · simp [mismatched_eq]
  · exact collect_kept _ _
  · simp [dropUnrec_eq]

theorem hresetStep_kept (s : State) : (hresetStep s).cfg = s.cfg ∧ (hresetStep s).inbox = s.inbox := by
  simp [hresetStep]

theorem connectStep_kept (s : State) : (connectStep s).cfg = s.cfg ∧ (connectStep s).inbox = s.inbox := by
  simp [connectStep]

theorem disconnectStep_kept (s : State) : (disconnectStep s).cfg = s.cfg ∧ (disconnectStep s).inbox = s.inbox := by
  simp [disconnectStep]

/-! ### A frame on TX -/

@[simp] theorem frameOnTx_length (f : Frame) : (frameOnTx f).length = List.length f := by simp [frameOnTx]

/-- The byte at position `k` is shown with `tx_last` exactly when it is the final one (20_memory.md R46). -/
theorem frameOnTx_drop (f : Frame) (k : Nat) (h : k < List.length f) :
    (frameOnTx f).drop k = (f[k], decide (k + 1 = List.length f)) :: (frameOnTx f).drop (k + 1) := by
  rw [List.drop_eq_getElem_cons (by simpa using h)]; simp [frameOnTx]

theorem frameOnTx_bytes (f : Frame) : (frameOnTx f).map Prod.fst = f := by
  simp [frameOnTx, Function.comp_def]

/-! ### What the guards of a cycle say -/

theorem State.tickDue_iff (s : State) :
    s.tickDue = true ↔ s.tickPending = true ∧ s.rxBuf = [] ∧ s.txq.length < s.cfg.txqDepth := by
  simp [State.tickDue, and_assoc]

theorem State.rxReady_iff (s : State) : s.rxReady = true ↔ s.conn = false ∨ s.txq.length < s.cfg.txqDepth := by
  simp [State.rxReady]

theorem PortIn.control_iff (p : PortIn) : p.control = true ↔ p.connStart = true ∨ p.connStop = true := by
  simp [PortIn.control]

/-- When a chunk is lost (20_memory.md R45). -/
theorem State.rxDiscards_iff (p : PortIn) (s : State) :
    s.rxDiscards p = true ↔ s.rxAbandon = true ∨ s.conn = false ∨ p.control = true ∧ s.rxBuf ≠ [] := by
  simp [State.rxDiscards, or_assoc]

/-- Within a connection, in a cycle without control events, a chunk that is not being discarded is not lost. -/
theorem State.rxDiscards_none (p : PortIn) (s : State) (hc : s.conn = true) (ha : s.rxAbandon = false)
    (h1 : p.connStart = false) (h2 : p.connStop = false) : s.rxDiscards p = false := by
  simp [State.rxDiscards, PortIn.control, hc, ha, h1, h2]

/-- A chunk that is lost produces no CHUNK event, its last byte included. -/
theorem rxCompleted_discards (p : PortIn) (x : Option (Byte × Bool)) (s : State) (h : s.rxDiscards p = true) :
    rxCompleted p x s = none := by
  unfold rxCompleted; split <;> simp [h]

/-- A completed chunk is what its last byte completes, in a cycle in which it is not lost. -/
theorem rxCompleted_iff (p : PortIn) (x : Option (Byte × Bool)) (s : State) (b : List Byte) :
    rxCompleted p x s = some b ↔ ∃ d, x = some (d, true) ∧ s.rxDiscards p = false ∧ b = s.rxBuf ++ [d] := by
  rcases x with _ | ⟨d, _ | _⟩ <;> cases h : s.rxDiscards p <;> simp [rxCompleted, h, eq_comm]

/-- A cycle with neither control nor a byte is the transfer on TX, the timer and the tick. -/
theorem portCycle_quiet (p : PortIn) (s : State) (h : p.quiet = true) :
    portCycle p s = portTick p.rtc (timerClock (txTransfer p.txReady (cycleStart p s))) := by
  simp [PortIn.quiet] at h
  obtain ⟨⟨⟨hr, h1⟩, h2⟩, h3⟩ := h
  simp [portCycle, hr, h1, h2, h3, rxTransfer, rxCompleted, rxClose, rxKeep, portControl, portChunk]

/-! ### The port-level fields under a CHUNK step -/

/-- A CHUNK step touches no port-level state but the queue, to which it adds at most one frame, and the pulses. -/
theorem chunkStep_port (b : List Byte) (s : State) :
    (chunkStep b s).rxBuf = s.rxBuf ∧ (chunkStep b s).rxAbandon = s.rxAbandon ∧ (chunkStep b s).txPos = s.txPos ∧
    (chunkStep b s).tickPending = s.tickPending ∧ (chunkStep b s).tmrCnt = s.tmrCnt ∧
    (chunkStep b s).tmrRun = s.tmrRun ∧ (chunkStep b s).conn = s.conn ∧
    ((chunkStep b s).txq = s.txq ∧ framesOf (chunkStep b s).trace = framesOf s.trace ∨
      s.conn = true ∧ ∃ f, f ≠ [] ∧ (chunkStep b s).txq = s.txq ++ [f] ∧
        framesOf (chunkStep b s).trace = framesOf s.trace ++ [f]) := by
  have hcol : ∀ u : State, b ≠ [] → u.conn = true →
      (collect b u).rxBuf = u.rxBuf ∧ (collect b u).rxAbandon = u.rxAbandon ∧ (collect b u).txPos = u.txPos ∧
      (collect b u).tickPending = u.tickPending ∧ (collect b u).tmrCnt = u.tmrCnt ∧
      (collect b u).tmrRun = u.tmrRun ∧ (collect b u).conn = u.conn ∧
      ((collect b u).txq = u.txq ∧ framesOf (collect b u).trace = framesOf u.trace ∨
        u.conn = true ∧ ∃ f, f ≠ [] ∧ (collect b u).txq = u.txq ++ [f] ∧
          framesOf (collect b u).trace = framesOf u.trace ++ [f]) := by
    intro u hb hc
    rcases collect_cases u hb with ⟨_, e⟩ | ⟨_, _, e⟩ | ⟨_, _, e⟩ <;> simp [e, framesOf, hc, chkReqFrame]
  rcases chunkStep_cases b s with ⟨_, e⟩ | ⟨hc, _, _, _, e⟩ | ⟨hc, _, _, _, e⟩ | ⟨hc, hb, _, _, e⟩ |
    ⟨hc, _, _, _, _, _, e⟩ | ⟨hc, _, _, _, _, _, e⟩ | ⟨hc, hb, _, _, _, _, e⟩ | ⟨hc, _, _, _, e⟩ <;> rw [e]
  · simp
  · simp [acknowledge_eq, framesOf, hc, dataReqFrame]
  · simp [dropUnrec_eq]
  · exact hcol s hb hc
  · simp [validated_eq, framesOf]
  · simp [mismatched_eq, framesOf, hc, resendFrame]
  · exact hcol { s with pstate := .collectingData } hb hc
  · simp [dropUnrec_eq]

/-- What a CHUNK step emits is appended. -/
theorem chunkStep_trace (b : List Byte) (s : State) : ∃ es, (chunkStep b s).trace = s.trace ++ es := by
  have hcol : ∀ u : State, b ≠ [] → ∃ es, (collect b u).trace = u.trace ++ es := by
    intro u hb
    rcases collect_cases u hb with ⟨_, e⟩ | ⟨_, _, e⟩ | ⟨_, _, e⟩ <;> simp [e]
  rcases chunkStep_cases b s with ⟨_, e⟩ | ⟨_, _, _, _, e⟩ | ⟨_, _, _, _, e⟩ | ⟨_, hb, _, _, e⟩ | ⟨_, _, _, _, _, _, e⟩ |
    ⟨_, _, _, _, _, _, e⟩ | ⟨_, hb, _, _, _, _, e⟩ | ⟨_, _, _, _, e⟩ <;> rw [e]
  · exact ⟨[], by simp⟩
  · exact ⟨_, by rw [acknowledge_eq]⟩
  · exact ⟨[], by simp [dropUnrec_eq]⟩
  · exact hcol s hb
  · exact ⟨_, by rw [validated_eq]⟩
  · exact ⟨_, by rw [mismatched_eq]⟩
  · exact hcol { s with pstate := .collectingData } hb
  · exact ⟨[], by simp [dropUnrec_eq]⟩

end Sys2Proof.Machine
end

