-- ==== Sys2Proof/Tests/Slice0.lean ====
section
/-! SUPPORT. Tests. Expected results are the vectors of 95_test_vectors.md (named V<n>, S<n>) or worked out by hand from
the rule named; the last part shows for every statement that its hypotheses can be met. -/

namespace Sys2Proof.Tests

open Sys2Proof Sys2Proof.Machine

/-! ### Small states -/

/-- ACC_CAP = 257, CHUNK_MAX = 64, CLK_HZ = 4, TXQ_DEPTH = 2, RESEND_REENTRY = `re`. -/
def cfgOf (re : Bool) : Config := ⟨257, 64, 4, 2, re⟩

/-- A state in the notation of 95_test_vectors.md: `{conn, pstate, ack, acc, tmr_run, flt_ovf}`. -/
def st (conn : Bool) (p : PState) (ack : Bool) (acc : List Byte) (run ovf : Bool) : State :=
  { State.reset with
    cfg := cfgOf false, conn := conn, pstate := p, ack := ack, acc := acc, tmrRun := run, fltOvf := ovf }

/-- The same with RESEND_REENTRY = 1. -/
def stR (p : PState) (acc : List Byte) : State := { st true p true acc false false with cfg := cfgOf true }

/-- What the event level shows of a state, in the notation of 95_test_vectors.md, with the emissions and conditions. -/
def ev (conn : Bool) (p : PState) (ack : Bool) (acc : List Byte) (run ovf : Bool) (es : List Emission)
    (cs : List Condition) : Option EventView :=
  some ⟨conn, p, ack, acc, run, ovf, es, cs⟩

/-- The event-level view after an operation. -/
def out (i : Instr) (s : State) : Option EventView :=
  match exec i s with
  | .next t => some t.eventView
  | .fault _ => none
  | .refused _ => none

/-- The values an operation returned. -/
def ret (i : Instr) (s : State) : Option (List Result) :=
  match exec i s with
  | .next t => some t.results
  | .fault _ => none
  | .refused _ => none

/-- AwaitingAck, connected, timer running. -/
def sAwait : State := st true .awaitingAck false [] true false
/-- CollectingData with a given frame buffer. -/
def sColl (acc : List Byte) : State := st true .collectingData true acc false false
/-- AwaitingChecksum with a given frame buffer. -/
def sCk (acc : List Byte) : State := st true .awaitingChecksum true acc false false
/-- Complete with the payload 01 02. -/
def sDone : State := st true .complete true [0x40, 0x01, 0x02, 0x4F] false false

/-- 2026-11-10 14:30:05, the sample of V20. -/
def t20 : TimeSample := ⟨2026, 11, 10, 14, 30, 5⟩

/-- A clock cycle in which nothing comes in. -/
def quietPorts : PortIn :=
  { rst := false, connStart := false, connStop := false, rx := none, txReady := false, rtc := t20, plAddr := 0 }

/-! ### WellFormed refuses what the rows exclude -/

/-- RX.DATA_CONT's first byte is not the start marker (30_encoding.md R65). -/
theorem test_wf_dataCont_refused : (Instr.rxDataCont 0x40 [0x01]).wellFormed (cfgOf false) = false := by decide
/-- RX.UNREC is a non-empty chunk (30_encoding.md R59). -/
theorem test_wf_unrec_refused : (Instr.rxUnrec []).wellFormed (cfgOf false) = false := by decide
/-- ACC.FEED takes a non-empty sequence (40_frame_accumulator.md R75). -/
theorem test_wf_feed_refused : (Instr.accFeed []).wellFormed (cfgOf false) = false := by decide
/-- A chunk longer than CHUNK_MAX = 64 is not delivered (00_scope.md R6). -/
theorem test_wf_chunk_refused : (Instr.chunk (List.replicate 65 0x11)).wellFormed (cfgOf false) = false := by decide
/-- One of exactly CHUNK_MAX bytes is. -/
theorem test_wf_chunk_accepted : (Instr.chunk (List.replicate 64 0x11)).wellFormed (cfgOf false) = true := by decide

/-! ### Decoding: words written out from 30_encoding.md -/

/-- The event codes 000 to 100 of R62. -/
theorem test_decode_events :
    decodeTableWord 3 0b000 = some .hreset ∧ decodeTableWord 3 0b001 = some .connect ∧
    decodeTableWord 8 0b010 = some .disconnect ∧ decodeTableWord 3 0b100 = some (.chunk []) ∧
    decode [0b011, 0x07, 0xEA, 0x0B, 0x0A, 0x0E, 0x1E, 0x05] = .ok (.tick t20) ∧
    decode [0b100, 1, 0x50, 1, 0x02, 1, 0x5F, 0] = .ok (.chunk [0x50, 0x02, 0x5F]) := by decide

/-- R62 gives the 3-bit codes 101 to 111 to no event; a chunk's first byte may be any but 40 (R65). -/
theorem test_decode_first_byte :
    tableReadings 3 0b101 = [] ∧ tableReadings 8 0b101 = [.rxDataCont 0x05 []] ∧
    tableReadings 8 0b010 = [.disconnect, .rxDataCont 0x02 []] ∧ tableReadings 8 0x40 = [.rxDataStart []] := by decide

/-- Format F10 bit by bit (R51), with the bytes of V20: 2026 = 0x07EA. -/
theorem test_decode_timesync :
    decodeTableWord 80
      0b01010000000000000000011111101010000010110000101000001110000111100000010101011111 =
      some (.txTimesync ⟨0xEA, 0x0B, 0x0A, 0x0E, 0x1E, 0x05⟩) ∧
    decode [5, 0x50, 0x00, 0x07, 0xEA, 0x0B, 0x0A, 0x0E, 0x1E, 0x05, 0x5F, 0x07] = .ok (.txTimesync t20) := by decide

/-- Format F3 bit by bit (R53): the three outgoing frames and the checksum frame with checksum 0x2A. -/
theorem test_decode_f3 :
    decodeTableWord 24 0b010000000000000101001111 = some .txDatareq ∧
    decodeTableWord 24 0b010000000000001001001111 = some .txChkreq ∧
    decodeTableWord 24 0b010000000000010001001111 = some .txResend ∧
    decodeTableWord 24 0b010000000010101001001111 = some (.rxChksum 0x2A) ∧
    decodeTableWord 24 0b010000000010101001001110 = none := by decide

/-- The chunk classes (R52, R53, R59, R65): bytes 0 and 1 of an ack; the first byte of a data chunk. -/
theorem test_decode_classes :
    decodeTableWord 16 0b0101000000000010 = some (.rxAck []) ∧ decodeTableWord 16 0b0101000000000011 = none ∧
    decodeTableWord 8 0b01000000 = some (.rxDataStart []) ∧
    decodeTableWord 8 0b01000001 = some (.rxDataCont 0x41 []) ∧
    decode [9, 0x50, 0x02, 1, 0xAA, 0] = .ok (.rxAck [0xAA]) ∧
    decode [10, 0x40, 1, 0x01, 0] = .ok (.rxDataStart [0x01]) ∧
    decode [11, 0x02, 1, 0x4F, 0] = .ok (.rxDataCont 0x02 [0x4F]) ∧
    decode [12, 0x40, 0x03, 0x4F] = .ok (.rxChksum 0x03) ∧
    decode [13, 1, 0x50, 1, 0x03, 0] = .ok (.rxUnrec [0x50, 0x03]) ∧ decode [14] = .ok .rxEmpty := by decide

/-- The rows without a wire pattern: row number, then the operands (log 2). -/
theorem test_decode_internal :
    decode [15] = .ok .accReset ∧ decode [16, 1, 0x02, 0] = .ok (.accAppend [0x02]) ∧ decode [17] = .ok .accIsterm ∧
    decode [18] = .ok .accPayload ∧ decode [19] = .ok .accInterior ∧ decode [20, 1, 0x40, 0] = .ok (.accFeed [0x40]) ∧
    decode [21, 1, 0x40, 1, 0x4F, 0] = .ok (.ckCompute [0x40, 0x4F]) ∧
    decode [22, 0x03, 1, 0x40, 0] = .ok (.ckValidate [0x40] 0x03) ∧ decode [23] = .ok .tmrStart ∧
    decode [24] = .ok .tmrStop ∧ decode [25, 1, 1, 0] = .ok (.rdpl 2) ∧ decode [26] = .ok .ack ∧
    decode [27, 1, 0x05, 0] = .ok (.data [0x05]) ∧ decode [28, 0x06] = .ok (.cksum 0x06) := by decide

/-- What is no descriptor is refused by name. -/
theorem test_decode_refusals :
    decode [] = .error .noCode ∧ decode [29] = .error (.unassignedCode 29) ∧ decode [1, 0] = .error .trailing ∧
    decode [6, 0x40, 0x02, 0x4F] = .error .pattern ∧ decode [12, 0x40, 0x03] = .error .truncated ∧
    decode [20, 0] = .error .operand ∧ decode [11, 0x40, 0] = .error .operand ∧
    decode [4, 2, 0] = .error (.continuation 2) := by decide

/-- The next step after placing the table's number runs it: CONNECT on the machine right after reset. -/
theorem test_fetchWord_runs :
    (match step (State.reset.withFetchWord 8 1) with | .next t => t.conn && t.tmrRun && t.inbox.isEmpty | _ => false) =
      true := by decide

/-! ### Connection control -/

/-- V61. -/
theorem test_hreset :
    out .hreset (st true .complete true [0x40, 0x01, 0x4F] false true) = ev false .awaitingAck false [] false false [] [] := by
  decide
/-- V67 and V65: CONNECT while connected is a restart, the payload is gone; CONNECT clears flt_ovf. -/
theorem test_connect :
    out .connect sDone = ev true .awaitingAck false [] true false [] [] ∧
    out .connect (st false .awaitingAck false [] false true) = ev true .awaitingAck false [] true false [] [] := by decide
/-- V64: DISCONNECT keeps flt_ovf. -/
theorem test_disconnect :
    out .disconnect (st true .collectingData true [] false true) = ev false .awaitingAck false [] false true [] [] := by
  decide
/-- V69: bytes 1 and 2 of the payload `01 02`. -/
theorem test_rdpl : ret (.rdpl 1) sDone = some [.byte 0x02] ∧ ret (.rdpl 2) sDone = some [.byte 0x00] := by decide
/-- V70: not Complete. -/
theorem test_rdpl_not_complete : ret (.rdpl 0) (sCk [0x40, 0x01, 0x02, 0x4F]) = some [.byte 0x00] := by decide

/-! ### The timer and the outgoing frames -/

/-- V27. -/
theorem test_tick_emits :
    out (.tick t20) sAwait = ev true .awaitingAck false [] true false
      [.tx [0x50, 0x00, 0x07, 0xEA, 0x0B, 0x0A, 0x0E, 0x1E, 0x05, 0x5F]] [] := by decide
/-- V28: the tick after the acknowledgment. -/
theorem test_tick_stops :
    out (.tick t20) (st true .collectingData true [0x40, 0x01] true false) =
      ev true .collectingData true [0x40, 0x01] false false [] [] := by decide
/-- V22: the year 1999 is 0x07CF, its low byte CF. -/
theorem test_txTimesync :
    out (.txTimesync ⟨1999, 12, 31, 23, 59, 59⟩) sAwait = ev true .awaitingAck false [] true false
      [.tx [0x50, 0x00, 0x07, 0xCF, 0x0C, 0x1F, 0x17, 0x3B, 0x3B, 0x5F]] [] := by decide
/-- V26: extreme fields are copied. -/
theorem test_txTimesync_extreme :
    timesyncFrame ⟨65535, 255, 255, 255, 255, 255⟩ = [0x50, 0x00, 0x07, 0xFF, 0xFF, 0xFF, 0xFF, 0xFF, 0xFF, 0x5F] := by
  decide
/-- The three request frames (43_protocol_engine.md R114). -/
theorem test_txRequests :
    out .txDatareq sAwait = ev true .awaitingAck false [] true false [.tx [0x40, 0x01, 0x4F]] [] ∧
    out .txChkreq sAwait = ev true .awaitingAck false [] true false [.tx [0x40, 0x02, 0x4F]] [] ∧
    out .txResend sAwait = ev true .awaitingAck false [] true false [.tx [0x40, 0x04, 0x4F]] [] := by decide
/-- CLK_HZ = 4: the counter is loaded with 4 - 1 (42_handshake_timer.md R85). -/
theorem test_tmrStart :
    (match exec .tmrStart (st true .awaitingAck false [] false false) with
      | .next t => (t.tmrRun, t.tmrCnt) | _ => (false, 0)) = (true, 3) := by decide
/-- TMR.STOP (42_handshake_timer.md R90). -/
theorem test_tmrStop : out .tmrStop sAwait = ev true .awaitingAck false [] false false [] [] := by decide

/-! ### The CHUNK step -/

/-- V46: a checksum frame with a byte too many is dropped. -/
theorem test_chunk_dropped :
    out (.chunk [0x40, 0x03, 0x4F, 0x00]) (sCk [0x40, 0x01, 0x02, 0x4F]) =
      ev true .awaitingChecksum true [0x40, 0x01, 0x02, 0x4F] false false [] [.protocolDesync] := by decide
/-- V60: without a connection nothing happens. -/
theorem test_chunk_unconnected :
    out (.chunk [0x50, 0x02, 0x5F]) (st false .awaitingAck false [] false false) =
      ev false .awaitingAck false [] false false [] [] := by decide
/-- V32: the body of an ack is ignored; ACKED precedes the data request. -/
theorem test_rxAck :
    out (.rxAck [0xAA, 0xBB, 0xCC]) sAwait =
      ev true .collectingData true [] true false [.ev .acked, .tx [0x40, 0x01, 0x4F]] [] := by decide
/-- V40: a second ack is data. -/
theorem test_rxAck_as_data :
    out (.rxAck [0x00]) (sColl []) = ev true .collectingData true [0x50, 0x02, 0x00, 0x5F] false false [] [] := by decide
/-- V44. -/
theorem test_rxDataStart :
    out (.rxDataStart [0x01, 0x4F, 0x40, 0x02, 0x4F]) (sColl []) =
      ev true .awaitingChecksum true [0x40, 0x01, 0x4F, 0x40, 0x02, 0x4F] false false [.tx [0x40, 0x02, 0x4F]] [] := by
  decide
/-- V41: a start marker at the head of the chunk discards what was collected. -/
theorem test_rxDataStart_resync :
    out (.rxDataStart [0x09, 0x4F]) (sColl [0x50, 0x02, 0x00, 0x5F]) =
      ev true .awaitingChecksum true [0x40, 0x09, 0x4F] false false [.tx [0x40, 0x02, 0x4F]] [] := by decide
/-- V42. -/
theorem test_rxDataCont :
    out (.rxDataCont 0x4F []) (sColl [0x40, 0x01]) =
      ev true .awaitingChecksum true [0x40, 0x01, 0x4F] false false [.tx [0x40, 0x02, 0x4F]] [] := by decide
/-- V11 as a chunk (43_protocol_engine.md R106): 201 + 57 = 258 > 257. -/
theorem test_rxDataCont_overflow :
    out (.rxDataCont 0x22 (List.replicate 56 0x22)) (sColl (0x40 :: List.replicate 200 0x11)) =
      ev true .collectingData true [] false true [] [.accOverflow] := by decide +kernel
/-- V51. -/
theorem test_rxChksum_match :
    out (.rxChksum 0x00) (sCk [0x40, 0xFF, 0x01, 0x4F]) =
      ev true .complete true [0x40, 0xFF, 0x01, 0x4F] false false [.ev (.payload [0xFF, 0x01])] [] := by decide
/-- V52. -/
theorem test_rxChksum_mismatch :
    out (.rxChksum 0xFF) (sCk [0x40, 0xFF, 0x01, 0x4F]) =
      ev true .resendRequested true [] false false [.tx [0x40, 0x04, 0x4F]] [.checksumMismatch] := by decide
/-- V36. -/
theorem test_rxUnrec_await :
    out (.rxUnrec [0x50, 0x02, 0x5F, 0x00]) sAwait = ev true .awaitingAck false [] true false [] [.protocolDesync] := by
  decide
/-- V54. -/
theorem test_rxUnrec_complete :
    out (.rxUnrec [0x50, 0x02, 0x00, 0x5F]) sDone =
      ev true .complete true [0x40, 0x01, 0x02, 0x4F] false false [] [.protocolDesync] := by decide
/-- V59. -/
theorem test_rxEmpty : out .rxEmpty sDone = ev true .complete true [0x40, 0x01, 0x02, 0x4F] false false [] [] := by decide
/-- V31. -/
theorem test_ack :
    out .ack sAwait = ev true .collectingData true [] true false [.ev .acked, .tx [0x40, 0x01, 0x4F]] [] := by decide
/-- V30: the empty payload. -/
theorem test_data :
    out (.data []) (sColl []) = ev true .awaitingChecksum true [0x40, 0x4F] false false [.tx [0x40, 0x02, 0x4F]] [] := by
  decide
/-- S5 (b). -/
theorem test_cksum :
    out (.cksum 0x03) (sCk [0x40, 0x01, 0x02, 0x4F]) =
      ev true .complete true [0x40, 0x01, 0x02, 0x4F] false false [.ev (.payload [0x01, 0x02])] [] := by decide
/-- V56 and V55: re-entry only with RESEND_REENTRY = 1. -/
theorem test_reentry :
    out (.chunk [0x40, 0x01, 0x02, 0x4F]) (stR .resendRequested []) =
      ev true .awaitingChecksum true [0x40, 0x01, 0x02, 0x4F] false false [.tx [0x40, 0x02, 0x4F]] [] ∧
    out (.chunk [0x40, 0x01, 0x02, 0x4F]) (st true .resendRequested true [] false false) =
      ev true .resendRequested true [] false false [] [.protocolDesync] := by decide
/-- V58 and V57. -/
theorem test_reentry_partial :
    out (.chunk [0x40, 0x01]) (stR .resendRequested []) = ev true .collectingData true [0x40, 0x01] false false [] [] ∧
    out (.chunk [0x01, 0x02, 0x4F]) (stR .resendRequested []) =
      ev true .resendRequested true [] false false [] [.protocolDesync] := by decide

/-! ### The accumulator and the checksum -/

/-- V10. -/
theorem test_accReset : out .accReset (sColl [0x40, 0x01]) = ev true .collectingData true [] false false [] [] := by decide
/-- V2. -/
theorem test_accAppend :
    out (.accAppend [0x02, 0x4F]) (sColl [0x40, 0x01]) =
      ev true .collectingData true [0x40, 0x01, 0x02, 0x4F] false false [] [] := by decide
/-- V7 and V10: an end marker not at the tail, and nothing at all, do not terminate. -/
theorem test_accIsterm :
    ret .accIsterm (sColl [0x40, 0x01, 0x4F, 0x02]) = some [.flag false] ∧ ret .accIsterm (sColl []) = some [.flag false] ∧
    ret .accIsterm (sColl [0x4F]) = some [.flag true] := by decide
/-- The snapshot keeps the markers (40_frame_accumulator.md R73). -/
theorem test_accPayload : ret .accPayload sDone = some [.bytes [0x40, 0x01, 0x02, 0x4F]] := by decide
/-- V6: exclusion is by position. -/
theorem test_accInterior :
    ret .accInterior (sColl [0x11, 0x40, 0x05, 0x4F]) = some [.bytes [0x40, 0x05]] ∧
    ret .accInterior (sColl [0x4F]) = some [.bytes []] := by decide
/-- V12 and V11: 257 bytes fit, 258 do not. -/
theorem test_accFeed_boundary :
    out (.accFeed (List.replicate 56 0x22)) (sColl (0x40 :: List.replicate 200 0x11)) =
      ev true .collectingData true (0x40 :: List.replicate 200 0x11 ++ List.replicate 56 0x22) false false [] [] ∧
    out (.accFeed (List.replicate 57 0x22)) (sColl (0x40 :: List.replicate 200 0x11)) =
      ev true .collectingData true [] false true [] [.accOverflow] := by decide +kernel
/-- V13: a full accumulator does not overflow on re-synchronisation. -/
theorem test_accFeed_resync :
    out (.accFeed [0x40, 0x4F]) (sColl (List.replicate 257 0x11)) =
      ev true .collectingData true [0x40, 0x4F] false false [] [] := by decide +kernel
/-- V15: 255 bytes FF sum to 0x01. -/
theorem test_ckCompute_wraps :
    ret (.ckCompute (0x40 :: List.replicate 255 0xFF ++ [0x4F])) sAwait = some [.byte 0x01] := by decide +kernel
/-- V19d and V19e: the first byte is left out by position, inner markers are summed. -/
theorem test_ckCompute_positions :
    ret (.ckCompute [0x11, 0x40, 0x05, 0x4F]) sAwait = some [.byte 0x45] ∧
    ret (.ckCompute [0x40, 0x01, 0x4F, 0x40, 0x02, 0x4F]) sAwait = some [.byte 0x92] := by decide
/-- 95_test_vectors.md 2.2: match for 0x03, mismatch for 0x83. -/
theorem test_ckValidate :
    ret (.ckValidate [0x40, 0x01, 0x02, 0x4F] 0x03) sAwait = some [.verdict .matched] ∧
    ret (.ckValidate [0x40, 0x01, 0x02, 0x4F] 0x83) sAwait = some [.verdict .mismatched] := by decide

/-! ### STATUS: V71 to V79 -/

theorem test_status_awaiting :
    (st false .awaitingAck false [] false false).status.toNat = 0x0000000 ∧ sAwait.status.toNat = 0x0000005 ∧
    (st false .awaitingAck false [] false true).status.toNat = 0x0000008 ∧
    (st true .resendRequested true [] true false).status.toNat = 0x0000047 := by decide
theorem test_status_collecting :
    (st true .collectingData true [] true false).status.toNat = 0x0000017 ∧
    (sColl [0x40, 0x01]).status.toNat = 0x0020013 ∧
    (st true .collectingData true [] true true).status.toNat = 0x000001F := by decide
theorem test_status_complete :
    (sCk [0x40, 0x01, 0x02, 0x4F]).status.toNat = 0x0040023 ∧ sDone.status.toNat = 0x00400B3 := by decide

/-! ### The port level (20_memory.md R42 to R46) -/

/-- The last byte of `50 02 5F` completes an ack: the chunk is processed in that cycle. -/
theorem test_port_chunk_completes :
    (portCycle { quietPorts with rx := some (0x5F, true) } { sAwait with rxBuf := [0x50, 0x02], tmrCnt := 2 }).pstate =
      .collectingData := by decide
/-- A queued frame's first byte is offered, and leaves when the receiver is ready; `tx_last` only with the last. -/
theorem test_port_tx :
    (portOut quietPorts { sAwait with txq := [dataReqFrame] }).tx = some (0x40, false) ∧
    (portOut quietPorts { sAwait with txq := [dataReqFrame], txPos := 2 }).tx = some (0x4F, true) ∧
    (portCycle { quietPorts with txReady := true } { sAwait with txq := [dataReqFrame], txPos := 2, tmrCnt := 2 }).txq =
      [] := by decide
/-- A CONNECT while connected discards no queued frame (20_memory.md R46). -/
theorem test_connect_keeps_queue :
    (match exec .connect { sAwait with txq := [dataReqFrame, chkReqFrame], txPos := 1 } with
      | .next t => (t.txq, t.txPos) | _ => ([], 0)) = ([[0x40, 0x01, 0x4F], [0x40, 0x02, 0x4F]], 1) := by decide
/-- `tx_last` stands on the final byte of each frame (20_memory.md R46). -/
theorem test_txPending :
    ({ sAwait with txq := [dataReqFrame, chkReqFrame], txPos := 1 } : State).txPending =
      [(0x01, false), (0x4F, true), (0x40, false), (0x02, false), (0x4F, true)] := by decide
/-- A CONNECT in the middle of a chunk abandons it; its rest is discarded (R45). -/
theorem test_port_abandons :
    (portCycle { quietPorts with connStart := true } { sAwait with rxBuf := [0x50, 0x02] }).rxAbandon = true ∧
    (portCycle { quietPorts with rx := some (0x5F, true) } { sAwait with rxAbandon := true, tmrCnt := 2 }).ack =
      false := by decide
/-- `50 02` before a CONNECT and `5F` with it are no ack of the new engine: the chunk is abandoned to its end (R45). -/
theorem test_port_connect_on_last :
    (portCycle { quietPorts with connStart := true, rx := some (0x5F, true) } { sAwait with rxBuf := [0x50, 0x02] }).ack =
      false ∧
    (portCycle { quietPorts with connStart := true, rx := some (0x5F, true) }
      { sAwait with rxBuf := [0x50, 0x02] }).rxAbandon = false := by decide
/-- Without a connection `50 02` is discarded, and `5F` in the cycle of the CONNECT is no ack (R45, R124). -/
theorem test_port_idle_bytes :
    (runCycles [{ quietPorts with rx := some (0x50, false) }, { quietPorts with rx := some (0x02, false) }]
      State.reset).rxBuf = [] ∧
    (runCycles [{ quietPorts with rx := some (0x50, false) }, { quietPorts with rx := some (0x02, false) },
      { quietPorts with connStart := true, rx := some (0x5F, true) }] State.reset).pstate = .awaitingAck := by decide

/-! ### Witnesses: the hypotheses of every statement can be met, clause by clause -/

/-- DecodeInvertsEncode: the three rows with a condition on their operands, and one without. -/
theorem witness_operandsOk :
    (Instr.rxDataCont 0x41 []).operandsOk = true ∧ (Instr.rxUnrec [0x40]).operandsOk = true ∧
    (Instr.accFeed [0x40]).operandsOk = true ∧ Instr.hreset.operandsOk = true := by decide
/-- EveryDescriptorHasOneMeaning. -/
theorem witness_decodes : decode [28, 0x06] = .ok (.cksum 0x06) := by decide
/-- ChecksumFieldIsReadFromItsBits: a value next to the excluded ones, and the largest. -/
theorem witness_checksumField :
    ((0x03 : Byte) ≠ 0x01 ∧ (0x03 : Byte) ≠ 0x02 ∧ (0x03 : Byte) ≠ 0x04) ∧
    ((0xFF : Byte) ≠ 0x01 ∧ (0xFF : Byte) ≠ 0x02 ∧ (0xFF : Byte) ≠ 0x04) := by decide
/-- StepPerformsTheDecodedOperation. -/
theorem witness_stepPerforms :
    ({ sAwait with inbox := [.op [2]] } : State).inbox = .op [2] :: [] ∧ decode [2] = .ok .disconnect := by decide
/-- StepWaitsCyclesOrRefuses, its three clauses. -/
theorem witness_stepOther :
    sAwait.inbox = [] ∧ ({ sAwait with inbox := [.cycle quietPorts] } : State).inbox = .cycle quietPorts :: [] ∧
    ({ sAwait with inbox := [.op []] } : State).inbox = .op [] :: [] ∧ decode [] = .error .noCode := by decide
/-- DisconnectWithoutConnectionChangesNothing: the fault bit of the ended connection set, a chunk being discarded. -/
theorem witness_disconnectIdle :
    ({ st false .awaitingAck false [] false true with rxAbandon := true } : State).ArchInv ∧
    ({ st false .awaitingAck false [] false true with rxAbandon := true } : State).PortInv ∧
    (st false .awaitingAck false [] false true).conn = false := by decide
/-- TickBeforeAckSendsOneTimesync, EveryTickRetriesUntilTheAck (state). -/
theorem witness_tickBefore : sAwait.conn = true ∧ sAwait.tmrRun = true ∧ sAwait.ack = false := by decide
/-- TickAfterAckStopsTheTimer. -/
theorem witness_tickAfter :
    (st true .complete true [0x4F] true false).conn = true ∧ (st true .complete true [0x4F] true false).tmrRun = true ∧
    (st true .complete true [0x4F] true false).ack = true := by decide
/-- TickNotEnabledIsDropped: either reason alone. -/
theorem witness_tickOff :
    (st false .awaitingAck false [] true false).conn = false ∧ (sColl []).tmrRun = false ∧ (sColl []).conn = true := by
  decide
/-- AckChunkAcknowledges: length 3 and more. -/
theorem witness_ack :
    Instr.ack.chunkBytes = some [0x50, 0x02, 0x5F] ∧ 3 ≤ ([0x50, 0x02, 0x5F] : List Byte).length ∧
    ([0x50, 0x02, 0x5F] : List Byte)[0]? = some 0x50 ∧ ([0x50, 0x02, 0x5F] : List Byte)[1]? = some 0x02 ∧
    ([0x50, 0x02, 0x5F] : List Byte).getLast? = some 0x5F ∧ sAwait.conn = true ∧ sAwait.ack = false ∧
    (Instr.rxAck [0x00]).chunkBytes = some [0x50, 0x02, 0x00, 0x5F] ∧
    ([0x50, 0x02, 0x00, 0x5F] : List Byte).getLast? = some 0x5F := by decide
/-- OtherChunkBeforeAckIsDropped: V34, one byte too short, and V36, the wrong last byte. -/
theorem witness_notAck :
    (Instr.rxUnrec [0x50, 0x02]).chunkBytes = some [0x50, 0x02] ∧ ¬3 ≤ ([0x50, 0x02] : List Byte).length ∧
    (Instr.chunk [0x50, 0x02, 0x5F, 0x00]).chunkBytes = some [0x50, 0x02, 0x5F, 0x00] ∧
    ([0x50, 0x02, 0x5F, 0x00] : List Byte).getLast? ≠ some 0x5F ∧ sAwait.conn = true ∧ sAwait.ack = false := by decide
/-- FittingChunkIsCollected: exactly ACC_CAP bytes, both clauses of the last byte. -/
theorem witness_fits :
    (sColl (List.replicate 255 0x11)).pstate = .collectingData ∧ (sColl (List.replicate 255 0x11)).ack = true ∧
    (sColl (List.replicate 255 0x11)).conn = true ∧ (Instr.rxDataCont 0x22 [0x4F]).chunkBytes = some [0x22, 0x4F] ∧
    ((List.replicate 255 0x11 : List Byte) ++ [0x22, 0x4F]).length ≤ (cfgOf false).accCap ∧
    ([0x22, 0x4F] : List Byte).getLast? = some 0x4F ∧ (Instr.rxDataStart [0x01]).chunkBytes = some [0x40, 0x01] ∧
    ([0x40, 0x01] : List Byte).getLast? ≠ some 0x4F := by decide +kernel
/-- OverflowingChunkIsDiscarded: one byte too many, for either kind of chunk. -/
theorem witness_overflows :
    (Instr.chunk [0x22, 0x4F]).chunkBytes = some [0x22, 0x4F] ∧
    (cfgOf false).accCap < (sColl (List.replicate 256 0x11)).acc.length + ([0x22, 0x4F] : List Byte).length ∧
    (Instr.data (List.replicate 256 0x11)).chunkBytes = some (0x40 :: List.replicate 256 0x11 ++ [0x4F]) ∧
    (cfgOf false).accCap < 0 + (0x40 :: List.replicate 256 0x11 ++ [0x4F] : List Byte).length := by decide +kernel
/-- MatchingChecksumDeliversThePayload and MismatchingChecksumRequestsAResend: S5. -/
theorem witness_checksum :
    (Instr.cksum 0x03).chunkBytes = some [0x40, 0x03, 0x4F] ∧ (sCk [0x40, 0x01, 0x02, 0x4F]).conn = true ∧
    (sCk [0x40, 0x01, 0x02, 0x4F]).ack = true ∧ (sCk [0x40, 0x01, 0x02, 0x4F]).pstate = .awaitingChecksum ∧
    (0x03 : Byte).toNat = (([0x01, 0x02] : List Byte).map BitVec.toNat).sum % 256 ∧
    (0x04 : Byte).toNat ≠ (([0x01, 0x02] : List Byte).map BitVec.toNat).sum % 256 ∧
    (Instr.rxChksum 0x04).chunkBytes = some [0x40, 0x04, 0x4F] := by decide
/-- UnrecognisedChunkIsDropped: its four cases. -/
theorem witness_unrecognised :
    (sCk [0x4F]).pstate = .awaitingChecksum ∧ (sCk [0x4F]).conn = true ∧ (sCk [0x4F]).ack = true ∧
    ([0x40, 0x03, 0x4E] : List Byte)[2]? ≠ some 0x4F ∧ sDone.pstate = .complete ∧ sDone.conn = true ∧ sDone.ack = true ∧
    (st true .resendRequested true [] false false).cfg.resendReentry = false ∧
    (stR .resendRequested []).cfg.resendReentry = true ∧ ([0x01] : List Byte).head? ≠ some 0x40 := by decide
/-- ReentryIsProcessedAsData. -/
theorem witness_reentry :
    (Instr.data [0x05]).chunkBytes = some [0x40, 0x05, 0x4F] ∧ (stR .resendRequested []).conn = true ∧
    (stR .resendRequested []).ack = true ∧ (stR .resendRequested []).pstate = .resendRequested ∧
    (stR .resendRequested []).cfg.resendReentry = true ∧ ([0x40, 0x05, 0x4F] : List Byte).head? = some 0x40 := by decide
/-- IgnoredChunkChangesNothing: either reason. -/
theorem witness_ignored :
    (st false .awaitingAck false [] false false).conn = false ∧ Instr.rxEmpty.chunkBytes = some [] ∧
    Instr.ack.chunkBytes.isSome = true := by decide
/-- DispatchFollowsTheDecodeTable, in each of the five protocol states. -/
theorem witness_dispatch :
    (sAwait.ArchInv ∧ sAwait.conn = true) ∧ ((sColl [0x40, 0x01]).ArchInv ∧ (sColl [0x40, 0x01]).conn = true) ∧
    ((sCk [0x40, 0x4F]).ArchInv ∧ (sCk [0x40, 0x4F]).conn = true) ∧ (sDone.ArchInv ∧ sDone.conn = true) ∧
    ((stR .resendRequested []).ArchInv ∧ (stR .resendRequested []).conn = true) :=
  ⟨⟨by decide, rfl⟩, ⟨by decide, rfl⟩, ⟨by decide, rfl⟩, ⟨by decide, rfl⟩, ⟨by decide, rfl⟩⟩
/-- OutgoingFramesAreTheirBytes: the four rows. -/
theorem witness_frames :
    (Instr.txDatareq = .txDatareq ∧ dataReqFrame = [0x40, 0x01, 0x4F]) ∧
    (Instr.txChkreq = .txChkreq ∧ chkReqFrame = [0x40, 0x02, 0x4F]) ∧
    (Instr.txResend = .txResend ∧ resendFrame = [0x40, 0x04, 0x4F]) ∧
    timesyncFrame t20 = [0x50, 0x00, 0x07, BitVec.ofNat 8 (t20.year.toNat % 256), 11, 10, 14, 30, 5, 0x5F] := by decide
/-- AccumulatorWrites: the append and the three feeds at the capacity. -/
theorem witness_accWrites :
    (sColl (List.replicate 256 0x11)).acc.length + ([0x22] : List Byte).length ≤ (cfgOf false).accCap ∧
    ([0x40] : List Byte).head? = some 0x40 ∧ ([0x40] : List Byte).length ≤ (cfgOf false).accCap ∧
    ([0x22] : List Byte).head? ≠ some 0x40 ∧
    (cfgOf false).accCap < (sColl (List.replicate 257 0x11)).acc.length + ([0x22] : List Byte).length := by decide +kernel
/-- PayloadReadReturnsTheByte: the last byte of the payload, one beyond, and another state. -/
theorem witness_rdpl :
    sDone.pstate = .complete ∧ 1 < sDone.acc.length - 2 ∧ sDone.acc[2]? = some 0x02 ∧ sDone.acc.length - 2 ≤ 2 ∧
    sAwait.pstate ≠ .complete := by decide
/-- StatusWordLayout, EveryOperationKeepsTheStore: a full accumulator. -/
theorem witness_store :
    Memory.wf (sColl (List.replicate 257 0x11)).cfg (sColl (List.replicate 257 0x11)).acc ∧
    ∃ t, exec (.accAppend [0x22]) (sColl (List.replicate 257 0x11)) = .next t := ⟨by decide +kernel, _, rfl⟩
/-- EveryStepKeepsTheInvariant: an operation, and a clock cycle. -/
theorem witness_step :
    ({ sAwait with inbox := [.op [26]] } : State).ArchInv ∧
    ({ sAwait with inbox := [.op [26]] } : State).inboxExternal = true ∧
    ({ sAwait with inbox := [.cycle quietPorts] } : State).inboxExternal = true ∧
    ∃ t, step { sAwait with inbox := [.op [26]] } = .next t := ⟨by decide, by decide, by decide, _, rfl⟩
/-- EveryCycleKeepsThePortInvariant, TxStreamIsTheFramesInOrder: a full queue whose first frame is nearly sent. -/
theorem witness_port :
    (cfgOf false).wf ∧ ({ sAwait with txq := [dataReqFrame, chkReqFrame], txPos := 2, tmrCnt := 3 } : State).PortInv ∧
    quietPorts.rst = false ∧ quietPorts.connStart = false ∧ quietPorts.connStop = false := by decide
/-- ProtocolStateMovesForward, OneEventEmitsAtMostOneFrameAndOneNotification. -/
theorem witness_forward :
    Instr.ack.inSession = true ∧ Instr.ack.external = true ∧ sAwait.ArchInv ∧ ∃ t, exec .ack sAwait = .next t :=
  ⟨by decide, by decide, by decide, _, rfl⟩
/-- OverflowBitIsSticky: CONNECT and HRESET do clear it. -/
theorem witness_sticky :
    (∃ t, exec .connect (st true .collectingData true [] true true) = .next t ∧ t.fltOvf = false) ∧
    (∃ t, exec .hreset (st true .collectingData true [] true true) = .next t ∧ t.fltOvf = false) ∧
    (st true .collectingData true [] true true).fltOvf = true := ⟨⟨_, rfl, rfl⟩, ⟨_, rfl, rfl⟩, rfl⟩
/-- NotificationsAtMostOncePerConnection, FramesOfOneConnectionAreInOrder: a session that reaches Complete. -/
theorem witness_session :
    (∀ i ∈ [Instr.tick t20, .ack, .data [0x05], .cksum 0x05], i.inSession = true) ∧
    sAwait.cfg.resendReentry = false ∧
    ∃ t, runOps (.connect :: [.tick t20, .ack, .data [0x05], .cksum 0x05]) sAwait = .next t ∧ t.pstate = .complete :=
  ⟨by decide, rfl, _, rfl, by decide⟩
/-- AccumulationIsChunkSizeInvariant, RoundTripDeliversThePayload: a partition with a tick inside. -/
theorem witness_roundTrip :
    (0x40 : Byte) ∉ ([0x01, 0x02] : List Byte) ∧ (0x4F : Byte) ∉ ([0x01, 0x02] : List Byte) ∧
    ([0x01, 0x02] : List Byte).length + 2 ≤ (cfgOf false).accCap ∧
    (∀ b ∈ ([[0x40, 0x01], [0x02, 0x4F]] : List (List Byte)), b ≠ []) ∧
    ([[0x40, 0x01], [0x02, 0x4F]] : List (List Byte)).flatten = [0x40] ++ [0x01, 0x02] ++ [0x4F] ∧
    (0x03 : Byte).toNat = (([0x01, 0x02] : List Byte).map BitVec.toNat).sum % 256 ∧
    [Instr.rxDataStart [0x01], .tick t20, .rxDataCont 0x02 [0x4F], .cksum 0x03].filterMap Instr.chunkBytes =
      [[0x40, 0x01], [0x02, 0x4F]] ++ [[0x40, 0x03, 0x4F]] ∧
    (cfgOf false).wf ∧ (sColl [0x11]).conn = true ∧ (sColl [0x11]).ack = true ∧
    (sColl [0x11]).pstate = .collectingData := by decide
/-- RoundTripDeliversThePayload, its condition on the operations between. -/
theorem witness_roundTrip_ops :
    ∀ i ∈ [Instr.rxDataStart [0x01], .tick t20, .rxDataCont 0x02 [0x4F], .cksum 0x03],
      i.chunkBytes.isSome = true ∨ ∃ t, i = .tick t := by
  simp [Instr.chunkBytes]
/-- EveryTickRetriesUntilTheAck: ticks and a chunk that is no ack. -/
theorem witness_retries :
    (∀ i ∈ [Instr.tick t20, .rxUnrec [0x50, 0x03, 0x5F], .tick t20], i.inSession = true) ∧
    (∀ i ∈ [Instr.tick t20, .rxUnrec [0x50, 0x03, 0x5F], .tick t20], ∀ b, i.chunkBytes = some b →
      ¬(3 ≤ b.length ∧ b[0]? = some 0x50 ∧ b[1]? = some 0x02 ∧ b.getLast? = some 0x5F)) ∧
    ∃ t, runOps [.tick t20, .rxUnrec [0x50, 0x03, 0x5F], .tick t20] sAwait = .next t := by
  refine ⟨by decide, ?_, _, rfl⟩
  simp [Instr.chunkBytes]
/-- WaitsForTheChecksumFrame: a chunk that is no checksum frame, and a tick. -/
theorem witness_waits :
    (sCk [0x4F]).ack = true ∧ (sCk [0x4F]).pstate = .awaitingChecksum ∧
    (∀ i ∈ [Instr.data [0x05, 0x06], .tick t20], i.inSession = true) ∧
    (∀ i ∈ [Instr.data [0x05, 0x06], .tick t20], ∀ b, i.chunkBytes = some b →
      ¬(b.length = 3 ∧ b[0]? = some 0x40 ∧ b[2]? = some 0x4F)) ∧
    ∃ t, runOps [.data [0x05, 0x06], .tick t20] (sCk [0x4F]) = .next t := by
  refine ⟨by decide, by decide, by decide, ?_, _, rfl⟩
  simp [Instr.chunkBytes, dataFrame]
/-- TerminalStatesAreLeftOnlyByConnectionControl: both states. -/
theorem witness_terminal :
    (sDone.ack = true ∧ sDone.pstate = .complete) ∧
    ((st true .resendRequested true [] false false).ack = true ∧
      (st true .resendRequested true [] false false).pstate = .resendRequested ∧
      (st true .resendRequested true [] false false).cfg.resendReentry = false) ∧
    (∀ i ∈ [Instr.data [0x05], .rdpl 0], i.inSession = true) ∧
    ∃ t, runOps [.data [0x05], .rdpl 0] sDone = .next t := ⟨by decide, by decide, by decide, _, rfl⟩
/-- EveryCycleIsAScriptOfEvents: a cycle with a tick, whose clause on the ready tick is met. -/
theorem witness_cycleTick :
    ({ sAwait with tickPending := true } : State).tickPending = true ∧
    (portCycle quietPorts { sAwait with tickPending := true, tmrCnt := 2 }).trace = [.tx (timesyncFrame t20)] := by decide
/-- ChunkOverThePortIsOneEvent: the bytes 50 02 5F in three cycles. -/
theorem witness_portChunk :
    sAwait.rxBuf = [] ∧ sAwait.rxAbandon = false ∧ sAwait.txq.length < sAwait.cfg.txqDepth ∧
    (∀ p ∈ [{ quietPorts with rx := some (0x50, false) }, { quietPorts with rx := some (0x02, false) },
        { quietPorts with rx := some (0x5F, true) }], p.rst = false ∧ p.connStart = false ∧ p.connStop = false) ∧
    [{ quietPorts with rx := some (0x50, false) }, { quietPorts with rx := some (0x02, false) },
        { quietPorts with rx := some (0x5F, true) }].map PortIn.rx =
      ([0x50, 0x02] : List Byte).map (fun d => some (d, false)) ++ [some (0x5F, true)] := by decide
/-- AbandonedChunkProducesNoEvent: connected, the timer running and firing meanwhile, an idle cycle between the bytes. -/
theorem witness_abandoned :
    ({ sAwait with rxAbandon := true, tmrCnt := 1 } : State).rxBuf = [] ∧
    ({ sAwait with rxAbandon := true, tmrCnt := 1 } : State).PortInv ∧
    ({ sAwait with rxAbandon := true, tmrCnt := 1 } : State).tmrRun = true ∧
    (∀ p ∈ [{ quietPorts with rx := some (0x02, false) }, quietPorts, { quietPorts with rx := some (0x5F, true) }],
      p.rst = false ∧ p.connStart = false ∧ p.connStop = false) ∧
    rxTransfers [{ quietPorts with rx := some (0x02, false) }, quietPorts, { quietPorts with rx := some (0x5F, true) }]
        { sAwait with rxAbandon := true, tmrCnt := 1 } =
      ([0x02] : List Byte).map (fun d => (d, false)) ++ [(0x5F, true)] ∧
    (runCycles [{ quietPorts with rx := some (0x02, false) }, quietPorts, { quietPorts with rx := some (0x5F, true) }]
      { sAwait with rxAbandon := true, tmrCnt := 1 }).trace = [.tx (timesyncFrame t20)] := by decide
/-- TimerFiresWhenItsCounterRunsOut: one quiet cycle, then the firing. -/
theorem witness_timer :
    ({ sAwait with tmrCnt := 1 } : State).conn = true ∧ ({ sAwait with tmrCnt := 1 } : State).tmrRun = true ∧
    ({ sAwait with tmrCnt := 1 } : State).ack = false ∧ ({ sAwait with tmrCnt := 1 } : State).tickPending = false ∧
    ({ sAwait with tmrCnt := 1 } : State).rxBuf = [] ∧
    ({ sAwait with tmrCnt := 1 } : State).txq.length < (cfgOf false).txqDepth ∧
    [quietPorts].length = ({ sAwait with tmrCnt := 1 } : State).tmrCnt ∧ (∀ q ∈ [quietPorts], q.quiet = true) ∧
    quietPorts.quiet = true := by decide
/-- FullQueueHoldsEventsBack, with a tick pending. -/
theorem witness_fullQueue :
    ({ sAwait with txq := [dataReqFrame, chkReqFrame], tickPending := true } : State).conn = true ∧
    ({ sAwait with txq := [dataReqFrame, chkReqFrame], tickPending := true } : State).txq.length =
      (cfgOf false).txqDepth ∧
    ({ sAwait with txq := [dataReqFrame, chkReqFrame], tickPending := true } : State).tickPending = true ∧
    quietPorts.txReady = false := by decide
/-- PulsesAndPayloadPortShowTheNotifications: the checksum frame of S5 (b), its last byte in this cycle. -/
theorem witness_pulses :
    ({ quietPorts with rx := some (0x4F, true) } : PortIn).rst = false ∧
    (portOut { quietPorts with plAddr := 1 } (portCycle { quietPorts with rx := some (0x4F, true) }
      { sCk [0x40, 0x01, 0x02, 0x4F] with rxBuf := [0x40, 0x03] })).evPayload = true ∧
    (portOut { quietPorts with plAddr := 1 } (portCycle { quietPorts with rx := some (0x4F, true) }
      { sCk [0x40, 0x01, 0x02, 0x4F] with rxBuf := [0x40, 0x03] })).plData = 0x02 := by decide
/-- ResetCycleIsHresetAlone. -/
theorem witness_resetCycle : ({ quietPorts with rst := true } : PortIn).rst = true := by decide
/-- NoByteOutlivesItsConnection: without a connection before the cycle, without one after it, and a CONNECT in the middle
of a chunk and while one is being discarded. -/
theorem witness_noByteOutlives :
    ((st false .awaitingAck false [] false false).ArchInv ∧ (st false .awaitingAck false [] false false).PortInv ∧
      (st false .awaitingAck false [] false false).conn = false) ∧
    ({ sAwait with rxBuf := [0x50, 0x02] } : State).ArchInv ∧ ({ sAwait with rxBuf := [0x50, 0x02] } : State).PortInv ∧
    ({ sAwait with rxAbandon := true } : State).PortInv ∧
    ({ quietPorts with connStop := true } : PortIn).connStart = false ∧
    ({ quietPorts with connStart := true } : PortIn).rst = false :=
  ⟨by decide, by decide, by decide, by decide, rfl, rfl⟩
/-- HiddenRegistersSuffice: the shortest terminated frame. -/
theorem witness_hidden : 2 ≤ (sCk [0x40, 0x4F]).acc.length ∧ (sCk [0x40, 0x4F]).isTerm = true := by decide

end Sys2Proof.Tests
end

section
/-! SUPPORT. The invariant of 10_state.md R18 in a form that a step's proof can split by `pstate`, and that each
event-level step and each part of a clock cycle keeps it. -/

namespace Sys2Proof.Machine

/-! ### The invariant -/

/-- What items 5 to 8 of 10_state.md R18 ask of the accumulator in each protocol state. -/
def PState.AccForm (m : Memory) : PState → Prop
  | .awaitingAck | .resendRequested => m = []
  | .collectingData => m.getLast? ≠ some eofData
  | .awaitingChecksum | .complete => m.getLast? = some eofData

/-- `AccForm` is items 5 to 8 as 10_state.md R18 writes them. -/
theorem PState.accForm_iff (m : Memory) (p : PState) :
    p.AccForm m ↔
      (p = .awaitingAck → m.length = 0) ∧
      (p = .collectingData → m.length = 0 ∨ Memory.read m (m.length - 1) ≠ some eofData) ∧
      (p = .awaitingChecksum ∨ p = .complete →
        1 ≤ m.length ∧ Memory.read m (m.length - 1) = some eofData) ∧
      (p = .resendRequested → m.length = 0) := by
  rw [Memory.read_last]
  cases m <;> cases p <;> simp [PState.AccForm]

/-- The nine items of 10_state.md R18 without what they say twice: items 1 to 4 tie the flags to each other and to
`pstate`, items 5 to 8 tie the accumulator to `pstate`. -/
theorem State.archInv_iff (s : State) :
    s.ArchInv ↔
      (s.ack = true → s.conn = true) ∧ (s.tmrRun = true → s.conn = true) ∧
      (s.conn = true → s.ack = false → s.tmrRun = true) ∧ (s.ack = true ↔ s.pstate ≠ .awaitingAck) ∧
      s.pstate.AccForm s.acc ∧ Memory.wf s.cfg s.acc := by
  constructor
  · rintro ⟨hidle, hack, hrun, hstart, hawait, hcoll, hterm, hresend, hwf⟩
    have hconn : s.ack = true → s.conn = true := by
      intro ha
      by_contra hc
      obtain ⟨-, hna, -⟩ := hidle (by simpa using hc)
      simp [ha] at hna
    exact ⟨hconn, hrun, fun hc ha => hstart ⟨ha, hc⟩, hack,
      (PState.accForm_iff _ _).2 ⟨hawait, hcoll, hterm, hresend⟩, hwf⟩
  · rintro ⟨hconn, hrun, hstart, hack, hform, hwf⟩
    obtain ⟨hawait, hcoll, hterm, hresend⟩ := (PState.accForm_iff _ _).1 hform
    refine ⟨fun hc => ?_, hack, hrun, fun ⟨ha, hc⟩ => hstart hc ha, hawait, hcoll, hterm, hresend, hwf⟩
    have ha : s.ack = false := by simpa [hc] using hconn
    have hp : s.pstate = .awaitingAck := by simpa [ha] using hack
    exact ⟨hp, ha, hawait hp, by simpa [hc] using hrun⟩

/-- The invariant speaks of the event level only. -/
theorem SameEvents.archInv_iff {s t : State} (h : SameEvents s t) : s.ArchInv ↔ t.ArchInv := by
  obtain ⟨hc, hp, ha, hacc, hr, -, -, -, hcfg⟩ := (sameEvents_iff s t).1 h
  simp only [State.archInv_iff, hc, hp, ha, hacc, hr, hcfg]

/-- A state without an acknowledgment is AwaitingAck (10_state.md R18 item 2). -/
theorem State.ArchInv.pstate_of_not_ack {s : State} (h : s.ArchInv) (ha : s.ack = false) :
    s.pstate = .awaitingAck := by
  obtain ⟨-, hack, -⟩ := h
  simpa [ha] using hack

/-! ### The event-level steps -/

theorem hresetStep_archInv (s : State) : (hresetStep s).ArchInv := by
  simp [State.archInv_iff, hresetStep, PState.AccForm]

theorem connectStep_archInv (s : State) : (connectStep s).ArchInv := by
  simp [State.archInv_iff, connectStep, PState.AccForm]

theorem disconnectStep_archInv (s : State) : (disconnectStep s).ArchInv := by
  simp [State.archInv_iff, disconnectStep, PState.AccForm]

theorem record_archInv (r : Result) {s : State} (h : s.ArchInv) : (s.record r).ArchInv := h

/-- R102 in a connection that awaits its acknowledgment. -/
theorem acknowledge_archInv {s : State} (h : s.ArchInv) (hc : s.conn = true) (ha : s.ack = false) :
    (acknowledge s).ArchInv := by
  have hp := h.pstate_of_not_ack ha
  obtain ⟨-, -, -, -, hform, -⟩ := s.archInv_iff.1 h
  have hacc : s.acc = [] := by simpa [hp, PState.AccForm] using hform
  simp [State.archInv_iff, acknowledge_eq, PState.AccForm, hc, hacc]

/-- Collecting a non-empty chunk: what is kept in CollectingData does not end with the end marker, what does moves on to
AwaitingChecksum, and an overflow leaves nothing (43_protocol_engine.md R104 to R106). -/
theorem collect_archInv {b : List Byte} {s : State} (h : s.ArchInv) (hb : b ≠ []) (hp : s.pstate = .collectingData) :
    (collect b s).ArchInv := by
  obtain ⟨hconn, -, -, hack, -, -⟩ := s.archInv_iff.1 h
  have ha : s.ack = true := by simp [hack, hp]
  have hc := hconn ha
  rcases collect_cases s hb with ⟨-, e⟩ | ⟨hfit, hlast, e⟩ | ⟨hfit, hlast, e⟩ <;>
    rw [e, State.archInv_iff]
  · simp [PState.AccForm, hp, ha, hc]
  · simpa [PState.AccForm, hp, ha, hc, fedAcc_getLast hb, hlast] using feedFits_iff.1 hfit
  · simpa [PState.AccForm, ha, hc, fedAcc_getLast hb, hlast] using feedFits_iff.1 hfit

/-- R108. -/
theorem validated_archInv {s : State} (h : s.ArchInv) (hp : s.pstate = .awaitingChecksum) : (validated s).ArchInv := by
  simpa [State.archInv_iff, validated_eq, PState.AccForm, hp] using h

/-- R109. -/
theorem mismatched_archInv {s : State} (h : s.ArchInv) (ha : s.ack = true) : (mismatched s).ArchInv := by
  obtain ⟨hconn, -⟩ := s.archInv_iff.1 h
  simp [State.archInv_iff, mismatched_eq, PState.AccForm, ha, hconn ha]

/-- R112 with RESEND_REENTRY = 1: the empty accumulator of ResendRequested is one of CollectingData. -/
theorem reentry_archInv {s : State} (h : s.ArchInv) (hp : s.pstate = .resendRequested) :
    ({ s with pstate := .collectingData } : State).ArchInv := by
  obtain ⟨hconn, -, -, hack, hform, -⟩ := s.archInv_iff.1 h
  have hacc : s.acc = [] := by simpa [hp, PState.AccForm] using hform
  have ha : s.ack = true := by simp [hack, hp]
  simp [State.archInv_iff, PState.AccForm, ha, hacc, hconn ha]

theorem dropUnrec_archInv {s : State} (h : s.ArchInv) : (dropUnrec s).ArchInv := h

/-- A CHUNK step keeps the invariant, row by row of R100. -/
theorem chunkStep_archInv (b : List Byte) {s : State} (h : s.ArchInv) : (chunkStep b s).ArchInv := by
  rcases chunkStep_cases b s with ⟨-, e⟩ | ⟨hc, -, ha, -, e⟩ | ⟨-, -, -, -, e⟩ | ⟨-, hb, -, hp, e⟩ |
    ⟨-, -, -, hp, -, -, e⟩ | ⟨-, -, ha, -, -, -, e⟩ | ⟨-, hb, -, hp, -, -, e⟩ | ⟨-, -, -, -, e⟩ <;> rw [e]
  · exact h
  · exact acknowledge_archInv h hc ha
  · exact dropUnrec_archInv h
  · exact collect_archInv h hb hp
  · exact validated_archInv h hp
  · exact mismatched_archInv h ha
  · exact collect_archInv (reentry_archInv h hp) hb rfl
  · exact dropUnrec_archInv h

/-- A tick keeps the invariant: it stops the timer only after the acknowledgment (42_handshake_timer.md R87). -/
theorem tickStep_archInv (x : TimeSample) {s : State} (h : s.ArchInv) : (tickStep x s).ArchInv := by
  rcases tickStep_cases x s with ⟨-, e⟩ | ⟨-, -, -, e⟩ | ⟨hc, -, ha, e⟩ <;> rw [e]
  · exact h
  · exact h
  · obtain ⟨-, -, -, hack, hform, hwf⟩ := s.archInv_iff.1 h
    simp [State.archInv_iff, hc, ha, ← hack, hform, hwf]

theorem fireTick_archInv (x : TimeSample) {s : State} (h : s.ArchInv) : (fireTick x s).ArchInv :=
  (tickStep_same x s).archInv_iff.1 (tickStep_archInv x h)

/-! ### A clock cycle -/

theorem portControl_archInv (p : PortIn) {s : State} (h : s.ArchInv) : (portControl p s).ArchInv := by
  cases hstart : p.connStart with
  | true => simpa [portControl, hstart] using connectStep_archInv _
  | false =>
    cases hstop : p.connStop with
    | true => simpa [portControl, hstart, hstop] using disconnectStep_archInv s
    | false => simpa [portControl, hstart, hstop] using h

theorem portChunk_archInv (b : Option (List Byte)) {s : State} (h : s.ArchInv) : (portChunk b s).ArchInv := by
  cases b with
  | none => exact h
  | some b => exact chunkStep_archInv b h

theorem portTick_archInv (x : TimeSample) {s : State} (h : s.ArchInv) : (portTick x s).ArchInv := by
  unfold portTick
  split
  · exact fireTick_archInv x h
  · exact h

/-- A clock cycle keeps the invariant: its port-level parts do not touch the event level, its events keep it. -/
theorem portCycle_archInv (p : PortIn) {s : State} (h : s.ArchInv) : (portCycle p s).ArchInv := by
  have hstart : (rxClose (rxTransfer p s) (txTransfer p.txReady (cycleStart p s))).ArchInv := by
    rwa [(rxClose_same _ _).archInv_iff, (txTransfer_same _ _).archInv_iff]
  unfold portCycle
  split
  · rw [(rxLost_same _ _).archInv_iff]
    exact hresetStep_archInv _
  · refine portTick_archInv _ (portChunk_archInv _ ?_)
    rw [(rxKeep_same _ _ _).archInv_iff]
    refine portControl_archInv p ?_
    rwa [(timerClock_same _).archInv_iff]

end Sys2Proof.Machine
end

section
/-! SUPPORT. The inputs still to come: a step takes the first one and writes no other. -/

namespace Sys2Proof.Machine

@[simp] theorem cycleStart_inbox (p : PortIn) (s : State) : (cycleStart p s).inbox = s.inbox := rfl

@[simp] theorem txTransfer_inbox (r : Bool) (s : State) : (txTransfer r s).inbox = s.inbox := by
  unfold txTransfer
  split
  · rfl
  · split
    · split <;> rfl
    · rfl

@[simp] theorem rxClose_inbox (x : Option (Byte × Bool)) (s : State) : (rxClose x s).inbox = s.inbox := by
  unfold rxClose; split <;> rfl

@[simp] theorem rxKeep_inbox (g : Bool) (x : Option (Byte × Bool)) (s : State) : (rxKeep g x s).inbox = s.inbox := by
  unfold rxKeep
  split
  · split <;> rfl
  · rfl

@[simp] theorem rxLost_inbox (x : Option (Byte × Bool)) (s : State) : (rxLost x s).inbox = s.inbox := by
  unfold rxLost; split <;> rfl

@[simp] theorem timerClock_inbox (s : State) : (timerClock s).inbox = s.inbox := by
  unfold timerClock
  split
  · split <;> rfl
  · rfl

@[simp] theorem hresetStep_inbox (s : State) : (hresetStep s).inbox = s.inbox := (hresetStep_kept s).2
@[simp] theorem connectStep_inbox (s : State) : (connectStep s).inbox = s.inbox := (connectStep_kept s).2
@[simp] theorem disconnectStep_inbox (s : State) : (disconnectStep s).inbox = s.inbox := (disconnectStep_kept s).2
@[simp] theorem chunkStep_inbox (b : List Byte) (s : State) : (chunkStep b s).inbox = s.inbox := (chunkStep_kept b s).2
@[simp] theorem fireTick_inbox (x : TimeSample) (s : State) : (fireTick x s).inbox = s.inbox := (fireTick_kept x s).2

@[simp] theorem tickStep_inbox (x : TimeSample) (s : State) : (tickStep x s).inbox = s.inbox := by
  rcases tickStep_cases x s with ⟨-, e⟩ | ⟨-, -, -, e⟩ | ⟨-, -, -, e⟩ <;> simp [e]

@[simp] theorem portControl_inbox (p : PortIn) (s : State) : (portControl p s).inbox = s.inbox := by
  cases h1 : p.connStop <;> cases h2 : p.connStart <;> simp [portControl, h1, h2]

@[simp] theorem portChunk_inbox (b : Option (List Byte)) (s : State) : (portChunk b s).inbox = s.inbox := by
  cases b with
  | none => rfl
  | some b => exact chunkStep_inbox b s

@[simp] theorem portTick_inbox (x : TimeSample) (s : State) : (portTick x s).inbox = s.inbox := by
  unfold portTick; split <;> simp

/-- A clock cycle writes no input. -/
@[simp] theorem portCycle_inbox (p : PortIn) (s : State) : (portCycle p s).inbox = s.inbox := by
  unfold portCycle; split <;> simp

end Sys2Proof.Machine
end

section
/-! SUPPORT. What a step can do, said once: an operation of the environment is one of six state changes, and a step
waits, runs a clock cycle or performs a decoded operation. -/

namespace Sys2Proof.Machine

/-- A property that holds after each of the six state changes holds after every operation of the environment
(44_connection_control.md R126). -/
theorem after_external_induct {P : State → Prop} {i : Instr} (s : State) (hi : i.external = true)
    (hreset : P (hresetStep s)) (connect : P (connectStep s)) (disconnect : P (disconnectStep s))
    (chunk : ∀ b, P (chunkStep b s)) (tick : ∀ x, P (tickStep x s)) (read : ∀ r, P (s.record r)) :
    P (after i s) := by
  rcases external_cases hi with rfl | rfl | rfl | hsession
  · exact hreset
  · exact connect
  · exact disconnect
  · rcases inSession_cases hsession with ⟨b, hb⟩ | ⟨x, rfl⟩ | ⟨n, rfl⟩
    · rw [after_of_chunkBytes hb]
      exact chunk b
    · exact tick x
    · exact read _

/-- An operation of the environment keeps the invariant of 10_state.md R18. -/
theorem after_archInv {i : Instr} {s : State} (hi : i.external = true) (h : s.ArchInv) : (after i s).ArchInv :=
  after_external_induct s hi (hresetStep_archInv s) (connectStep_archInv s) (disconnectStep_archInv s)
    (fun b => chunkStep_archInv b h) (fun x => tickStep_archInv x h) (fun r => record_archInv r h)

/-- An operation of the environment writes no input. -/
theorem after_inbox {i : Instr} (s : State) (hi : i.external = true) : (after i s).inbox = s.inbox :=
  after_external_induct (P := fun t => t.inbox = s.inbox) s hi (hresetStep_inbox s) (connectStep_inbox s)
    (disconnectStep_inbox s) (fun b => chunkStep_inbox b s) (fun x => tickStep_inbox x s) (fun _ => rfl)

/-- Everything a step that answers next can do (20_memory.md R39). -/
theorem step_cases {s t : State} (h : step s = .next t) :
    (s.inbox = [] ∧ t = s) ∨
    (∃ p rest, s.inbox = .cycle p :: rest ∧ t = portCycle p s.takeInput) ∨
    (∃ d rest i, s.inbox = .op d :: rest ∧ decode d = .ok i ∧ t = after i s.takeInput) := by
  unfold step at h
  split at h
  next hin =>
    injection h with h
    exact .inl ⟨hin, h.symm⟩
  next p rest hin =>
    injection h with h
    exact .inr (.inl ⟨p, rest, hin, h.symm⟩)
  next d rest hin =>
    split at h
    next i hd =>
      rw [exec_eq_after] at h
      injection h with h
      exact .inr (.inr ⟨d, rest, i, hin, hd, h.symm⟩)
    next => cases h

theorem takeInput_archInv {s : State} (h : s.ArchInv) : s.takeInput.ArchInv := h

/-- The inputs behind an environment's input are the environment's. -/
theorem State.inboxExternal_tail {s t : State} (h : s.inboxExternal = true) (ht : t.inbox = s.inbox.tail) :
    t.inboxExternal = true := by
  simp only [State.inboxExternal, List.all_eq_true] at h ⊢
  intro x hx
  rw [ht] at hx
  exact h x (List.mem_of_mem_tail hx)

/-- An operation at the head of the environment's inputs is one of the environment's. -/
theorem State.external_of_head {s : State} {d : List Byte} {rest : List Input} {i : Instr}
    (h : s.inboxExternal = true) (hin : s.inbox = .op d :: rest) (hd : decode d = .ok i) : i.external = true := by
  simp only [State.inboxExternal, hin, List.all_cons, Bool.and_eq_true, Input.external, hd] at h
  exact h.1

/-- Settles O37: a step waits, runs a clock cycle or performs an operation of the environment, and each keeps R18. -/
theorem everyStepKeepsTheInvariant : Obligations.EveryStepKeepsTheInvariant := by
  intro s t hinv hin hstep
  rcases step_cases hstep with ⟨-, rfl⟩ | ⟨p, rest, -, rfl⟩ | ⟨d, rest, i, hhead, hd, rfl⟩
  · exact ⟨hinv, hin⟩
  · exact ⟨portCycle_archInv p (takeInput_archInv hinv), State.inboxExternal_tail hin (portCycle_inbox p _)⟩
  · have hi := State.external_of_head hin hhead hd
    exact ⟨after_archInv hi (takeInput_archInv hinv), State.inboxExternal_tail hin (after_inbox _ hi)⟩

end Sys2Proof.Machine
end

section
/-! SUPPORT. The STATUS word of 10_state.md R17, bit by bit. -/

namespace Sys2Proof.Machine

/-- `ceilLog2 n` bits distinguish `n` values. -/
theorem le_two_pow_ceilLog2 (n : Nat) : n ≤ 2 ^ ceilLog2 n := by
  unfold ceilLog2
  split
  next h => simpa using h
  next h =>
    have := Nat.lt_log2_self (n := n - 1)
    omega

/-- ACC_LEN_W is wide enough for every `acc_len` up to ACC_CAP (00_scope.md R6). -/
theorem length_lt_two_pow_accLenW {c : Config} {m : Memory} (h : Memory.wf c m) : m.length < 2 ^ c.accLenW :=
  Nat.lt_of_lt_of_le (Nat.lt_succ_of_le h) (le_two_pow_ceilLog2 _)

/-- The bits of STATUS below ACC_LEN. -/
theorem State.status_getLsbD_low (s : State) {i : Nat} (hi : i < 16) : s.status.getLsbD i = s.statusLow.getLsbD i := by
  simp [State.status, BitVec.getLsbD_append, hi]

/-- A field of STATUS below ACC_LEN. -/
theorem State.status_extract_low (s : State) {i n : Nat} (h : i + n ≤ 16) :
    s.status.extractLsb' i n = s.statusLow.extractLsb' i n := by
  apply BitVec.eq_of_getLsbD_eq
  intro j hj
  simp only [BitVec.getLsbD_extractLsb', hj, decide_true, Bool.true_and]
  exact s.status_getLsbD_low (by omega)

/-- The ACC_LEN field is `acc_len`, cut off nowhere. -/
theorem State.status_accLen (s : State) (h : Memory.wf s.cfg s.acc) :
    (s.status.extractLsb' 16 s.cfg.accLenW).toNat = s.acc.length := by
  have hfield : s.status.extractLsb' 16 s.cfg.accLenW = BitVec.ofNat s.cfg.accLenW s.accLen := by
    apply BitVec.eq_of_getLsbD_eq
    intro j hj
    simp [State.status, BitVec.getLsbD_append, hj]
  rw [hfield, BitVec.toNat_ofNat, State.accLen, Nat.mod_eq_of_lt (length_lt_two_pow_accLenW h)]

/-- The four flags in bits 3:0 and PL_VALID in bit 7. -/
theorem State.statusLow_flags (s : State) :
    s.statusLow.getLsbD 0 = s.conn ∧ s.statusLow.getLsbD 1 = s.ack ∧ s.statusLow.getLsbD 2 = s.tmrRun ∧
      s.statusLow.getLsbD 3 = s.fltOvf ∧ s.statusLow.getLsbD 7 = decide (s.pstate = .complete) := by
  simp only [State.statusLow, BitVec.getLsbD_append]
  simp [State.plValid, beq_eq_decide]

/-- PSTATE in bits 6:4. -/
theorem State.statusLow_pstate (s : State) : s.statusLow.extractLsb' 4 3 = s.pstate.bits := by
  apply BitVec.eq_of_getLsbD_eq
  intro j hj
  simp only [BitVec.getLsbD_extractLsb', State.statusLow, BitVec.getLsbD_append]
  interval_cases j <;> simp

/-- Bits 15:8 read 0. -/
theorem State.statusLow_reserved (s : State) : s.statusLow.extractLsb' 8 8 = 0#8 := by
  apply BitVec.eq_of_getLsbD_eq
  intro j hj
  have hpstate : ¬ 4 + j < 3 := by omega
  have hvalid : 4 + j - 3 ≠ 0 := by omega
  simp only [BitVec.getLsbD_extractLsb', State.statusLow, BitVec.getLsbD_append]
  simp [hpstate, hvalid]

/-- Settles O36: the low 16 bits are `statusLow`, field by field, and ACC_LEN_W bits hold every legal `acc_len`. -/
theorem statusWordLayout : Obligations.StatusWordLayout := by
  intro s hwf
  obtain ⟨hconn, hack, hrun, hovf, hvalid⟩ := s.statusLow_flags
  refine ⟨?_, ?_, ?_, ?_, ?_, ?_, ?_, s.status_accLen hwf⟩
  · rw [s.status_getLsbD_low (by decide), hconn]
  · rw [s.status_getLsbD_low (by decide), hack]
  · rw [s.status_getLsbD_low (by decide), hrun]
  · rw [s.status_getLsbD_low (by decide), hovf]
  · rw [s.status_extract_low (by decide), s.statusLow_pstate]
    cases s.pstate <;> rfl
  · rw [s.status_getLsbD_low (by decide), hvalid]
  · rw [s.status_extract_low (by decide), s.statusLow_reserved]
    rfl

end Sys2Proof.Machine
end

section
/-! SUPPORT. What a CHUNK step and an operation within a connection do to `pstate` (10_state.md R13). -/

namespace Sys2Proof.Machine

/-- The edges of 10_state.md R13 within one connection, staying put included. -/
def PState.Edge (reentry : Bool) (p q : PState) : Prop :=
  q = p ∨
  (p = .awaitingAck ∧ q = .collectingData) ∨
  (p = .collectingData ∧ q = .awaitingChecksum) ∨
  (p = .awaitingChecksum ∧ (q = .complete ∨ q = .resendRequested)) ∨
  (reentry = true ∧ p = .resendRequested ∧ (q = .collectingData ∨ q = .awaitingChecksum))

/-- Collecting a chunk stays or goes to AwaitingChecksum (43_protocol_engine.md R104 to R106). -/
theorem collect_pstate {b : List Byte} (s : State) (hb : b ≠ []) :
    (collect b s).pstate = s.pstate ∨ (collect b s).pstate = .awaitingChecksum := by
  rcases collect_cases s hb with ⟨-, e⟩ | ⟨-, -, e⟩ | ⟨-, -, e⟩ <;> simp [e]

/-- A CHUNK step moves along an edge of R13, row by row of R100. -/
theorem chunkStep_edge (b : List Byte) {s : State} (h : s.ArchInv) :
    s.pstate.Edge s.cfg.resendReentry (chunkStep b s).pstate := by
  rcases chunkStep_cases b s with ⟨-, e⟩ | ⟨-, -, ha, -, e⟩ | ⟨-, -, -, -, e⟩ | ⟨-, hb, -, hp, e⟩ |
    ⟨-, -, -, hp, -, -, e⟩ | ⟨-, -, -, hp, -, -, e⟩ | ⟨-, hb, -, hp, hre, -, e⟩ | ⟨-, -, -, -, e⟩ <;> rw [e]
  · exact .inl rfl
  · simp [PState.Edge, acknowledge_eq, h.pstate_of_not_ack ha]
  · exact .inl rfl
  · rcases collect_pstate s hb with hq | hq <;> simp [PState.Edge, hp, hq]
  · simp [PState.Edge, validated_eq, hp]
  · simp [PState.Edge, mismatched_eq, hp]
  · rcases collect_pstate { s with pstate := .collectingData } hb with hq | hq <;> simp [PState.Edge, hp, hq, hre]
  · exact .inl rfl

theorem tickStep_pstate (x : TimeSample) (s : State) : (tickStep x s).pstate = s.pstate := by
  rcases tickStep_cases x s with ⟨-, e⟩ | ⟨-, -, -, e⟩ | ⟨-, -, -, e⟩ <;> simp [e]

/-- Settles O41: a chunk delivery moves along an edge, a tick and a payload read leave `pstate` alone. -/
theorem protocolStateMovesForward : Obligations.ProtocolStateMovesForward := by
  intro i s t hi hinv hexec
  rw [exec_eq_after] at hexec
  injection hexec with hafter
  subst hafter
  rcases inSession_cases hi with ⟨b, hb⟩ | ⟨x, rfl⟩ | ⟨n, rfl⟩
  · rw [after_of_chunkBytes hb]
    exact chunkStep_edge b hinv
  · exact .inl (tickStep_pstate x s)
  · exact .inl rfl

end Sys2Proof.Machine
end

section
/-! SUPPORT. The hidden registers of 10_state.md R19 against the recognisers and the checksum. -/

namespace Sys2Proof.Machine

/-- `isAck` of a chunk with last byte `z` reads two holding registers and whether the length is at least 2 before it. -/
theorem isAck_concat_iff (z : Byte) (s : State) :
    isAck (s.rxBuf ++ [z]) = true ↔
      2 ≤ s.rxSatLen ∧ s.rxHold0 = some 0x50 ∧ s.rxHold1 = some 0x02 ∧ z = 0x5F := by
  have hsat : 2 ≤ s.rxSatLen ↔ 3 ≤ (s.rxBuf ++ [z]).length := by
    simp [State.rxSatLen]
  rw [isAck_iff, hsat, List.getLast?_concat, Option.some_inj]
  refine and_congr_right fun hlen => ?_
  have h1 : 1 < s.rxBuf.length := by simpa [Nat.lt_iff_add_one_le] using hlen
  have h0 : 0 < s.rxBuf.length := Nat.zero_lt_of_lt h1
  rw [List.getElem?_append_left h0, List.getElem?_append_left h1, State.rxHold0, State.rxHold1]

/-- `isCk` of a chunk with last byte `z` reads the first holding register and whether exactly two bytes came before. -/
theorem isCk_concat_iff (z : Byte) (s : State) :
    isCk (s.rxBuf ++ [z]) = true ↔ s.rxSatLen = 2 ∧ s.rxHold0 = some 0x40 ∧ z = 0x4F := by
  have hsat : s.rxSatLen = 2 ↔ s.rxBuf.length = 2 := by
    simp only [State.rxSatLen]; omega
  rw [hsat, State.rxHold0]
  constructor
  · intro h
    obtain ⟨c, hc⟩ := (isCk_iff _).1 h
    obtain ⟨hbuf, hz⟩ : s.rxBuf = [0x40, c] ∧ [z] = [0x4F] := List.append_inj' (t₁ := [z]) (t₂ := [0x4F]) hc rfl
    simp [hbuf, List.cons.inj hz]
  · rintro ⟨hlen, h0, rfl⟩
    obtain ⟨x, c, hbuf⟩ := List.length_eq_two.1 hlen
    obtain rfl : x = 0x40 := by simpa [hbuf] using h0
    exact (isCk_iff _).2 ⟨c, by simp [hbuf]⟩

/-- The running sum of a terminated frame is its checksum and the end marker, which is no interior byte. -/
theorem runningSum_of_isTerm {s : State} (hlen : 2 ≤ s.acc.length) (ht : s.isTerm = true) :
    s.runningSum = ckCompute s.acc + 0x4F := by
  obtain ⟨init, hacc⟩ := List.getLast?_eq_some_iff.1 ((lastIs_iff _ _).1 ht)
  cases init with
  | nil => simp [hacc] at hlen
  | cons x p => simp [State.runningSum, ckCompute, interior, hacc, eofData]

/-- Settles O59: both recognisers by the holding registers, the checksum by the running sum less the end marker. -/
theorem hiddenRegistersSuffice : Obligations.HiddenRegistersSuffice := by
  refine ⟨fun z s => ⟨isAck_concat_iff z s, isCk_concat_iff z s⟩, fun s hlen ht => ?_⟩
  rw [runningSum_of_isTerm hlen ht, add_sub_cancel_right]

end Sys2Proof.Machine
end

section
/-! SUPPORT. The reset state (10_state.md R22): its STATUS word and the invariants it meets. -/

namespace Sys2Proof.Machine

/-- STATUS after reset: no flag, AwaitingAck and an empty accumulator, each coded 0. -/
theorem reset_status : State.reset.status = 0 := by
  have hlow : State.reset.statusLow = 0 := rfl
  have hlen : State.reset.accLen = 0 := rfl
  simp [State.status, hlow, hlen]

/-- The constraints of 00_scope.md R6 hold of the configuration at reset, whatever the open parameters are. -/
theorem reset_cfg_wf : State.reset.cfg.wf :=
  ⟨Nat.le_add_left 257 _, Nat.le_add_left 1 _, Nat.le_add_left 1 _, Nat.le_add_left 1 _⟩

/-- Settles O13: the registers by definition, the STATUS word by its fields. -/
theorem resetStateHasTheSpecsValues : Obligations.ResetStateHasTheSpecsValues :=
  ⟨rfl, rfl, rfl, rfl, rfl, rfl, by simp [reset_status], rfl, rfl, rfl, reset_cfg_wf.1, rfl⟩

theorem reset_archInv : State.reset.ArchInv := by
  simp [State.archInv_iff, State.reset, PState.AccForm]

theorem reset_portInv : State.reset.PortInv := by
  simp [State.PortInv, State.reset]

/-- Settles O38: the constraints of R6, R18, the port-level invariant, and an empty inbox. -/
theorem resetMeetsTheInvariants : Obligations.ResetMeetsTheInvariants :=
  ⟨reset_cfg_wf, reset_archInv, reset_portInv, rfl⟩

end Sys2Proof.Machine
end

section
/-! SUPPORT. The accumulator store under every operation (20_memory.md R31), and the operation that a step performs. -/

namespace Sys2Proof.Machine

/-- A feed keeps `acc_len <= ACC_CAP`: it appends only what fits (40_frame_accumulator.md R75). -/
theorem accFeed_wf (b : List Byte) (s : State) : Memory.wf (accFeed b s).cfg (accFeed b s).acc := by
  cases h : feedFits b s with
  | true => simpa [accFeed_fits h] using feedFits_iff.1 h
  | false => simp [accFeed_overflows h]

/-- Collecting feeds the accumulator, whatever it then emits (43_protocol_engine.md R104, R106). -/
theorem collect_wf {b : List Byte} (s : State) (hb : b ≠ []) : Memory.wf (collect b s).cfg (collect b s).acc := by
  rcases collect_cases s hb with ⟨-, e⟩ | ⟨hfit, -, e⟩ | ⟨hfit, -, e⟩ <;> rw [e]
  · exact Memory.wf_clear _
  · exact feedFits_iff.1 hfit
  · exact feedFits_iff.1 hfit

theorem chunkStep_wf (b : List Byte) {s : State} (h : Memory.wf s.cfg s.acc) :
    Memory.wf (chunkStep b s).cfg (chunkStep b s).acc := by
  rcases chunkStep_cases b s with ⟨-, e⟩ | ⟨-, -, -, -, e⟩ | ⟨-, -, -, -, e⟩ | ⟨-, hb, -, -, e⟩ |
    ⟨-, -, -, -, -, -, e⟩ | ⟨-, -, -, -, -, -, e⟩ | ⟨-, hb, -, -, -, -, e⟩ | ⟨-, -, -, -, e⟩ <;> rw [e]
  · exact h
  · rwa [acknowledge_eq]
  · exact h
  · exact collect_wf s hb
  · exact h
  · exact Memory.wf_clear _
  · exact collect_wf _ hb
  · exact h

theorem accFeed_cfg (b : List Byte) (s : State) : (accFeed b s).cfg = s.cfg := by
  cases h : feedFits b s with
  | true => rw [accFeed_fits h]
  | false => rw [accFeed_overflows h]

theorem tickStep_cfg_acc (x : TimeSample) (s : State) :
    (tickStep x s).cfg = s.cfg ∧ (tickStep x s).acc = s.acc := by
  rcases tickStep_cases x s with ⟨-, e⟩ | ⟨-, -, -, e⟩ | ⟨-, -, -, e⟩ <;> simp [e]

/-- ACC.APPEND performed on its own, with its precondition or without (log 12). -/
theorem after_accAppend_wf (b : List Byte) (s : State) :
    (after (.accAppend b) s).cfg = s.cfg ∧ Memory.wf (after (.accAppend b) s).cfg (after (.accAppend b) s).acc := by
  have e : after (.accAppend b) s = if s.accLen + b.length ≤ s.cfg.accCap then s.appendAcc b else s.overflow := rfl
  rw [e]
  split
  next hfit => exact ⟨rfl, Memory.wf_append _ _ _ hfit⟩
  next => exact ⟨rfl, Memory.wf_clear _⟩

/-- Every operation keeps the configuration and `acc_len <= ACC_CAP`. -/
theorem after_wf (i : Instr) {s : State} (h : Memory.wf s.cfg s.acc) :
    (after i s).cfg = s.cfg ∧ Memory.wf (after i s).cfg (after i s).acc := by
  cases hb : i.chunkBytes with
  | some b =>
    rw [after_of_chunkBytes hb]
    exact ⟨(chunkStep_kept b s).1, chunkStep_wf b h⟩
  | none =>
    cases i with
    | chunk | rxAck | rxDataStart | rxDataCont | rxChksum | rxUnrec | rxEmpty | ack | data | cksum => cases hb
    | hreset | connect | disconnect | accReset => exact ⟨rfl, Memory.wf_clear _⟩
    | tick x =>
      obtain ⟨hcfg, hacc⟩ := tickStep_cfg_acc x s
      rw [after_tick, hcfg, hacc]
      exact ⟨rfl, h⟩
    | accAppend b => exact after_accAppend_wf b s
    | accFeed b => exact ⟨accFeed_cfg b s, accFeed_wf b s⟩
    | txTimesync | txDatareq | txChkreq | txResend | accIsterm | accPayload | accInterior | ckCompute | ckValidate
    | tmrStart | tmrStop | rdpl => exact ⟨rfl, h⟩

/-- Settles O40: by the operation; a chunk and a feed append only what fits, the others append nothing. -/
theorem everyOperationKeepsTheStore : Obligations.EveryOperationKeepsTheStore := by
  intro i s t hwf hexec
  rw [exec_eq_after] at hexec
  injection hexec with hafter
  subst hafter
  exact after_wf i hwf

/-- Settles O6: the step takes the input and performs what it decodes to. -/
theorem stepPerformsTheDecodedOperation : Obligations.StepPerformsTheDecodedOperation := by
  intro s d rest i hin hd
  simp [step, hin, hd, State.takeInput]

end Sys2Proof.Machine
end

section
/-! SUPPORT. What one event emits and reports (20_memory.md R40, 60_exceptions.md R137), said once for each event. -/

namespace Sys2Proof.Machine

/-- The emissions one event can make (20_memory.md R40). -/
def EventEmissions (es : List Emission) : Prop :=
  es = [] ∨ (∃ f, isBlockFrame f ∧ es = [.tx f]) ∨ (∃ p, es = [.ev (.payload p)]) ∨
    es = [.ev .acked, .tx dataReqFrame]

theorem EventEmissions.nil : EventEmissions [] := .inl rfl

theorem EventEmissions.frame {f : Frame} (h : isBlockFrame f) : EventEmissions [.tx f] := .inr (.inl ⟨f, h, rfl⟩)

theorem EventEmissions.payload (p : List Byte) : EventEmissions [.ev (.payload p)] := .inr (.inr (.inl ⟨p, rfl⟩))

theorem EventEmissions.acked : EventEmissions [.ev .acked, .tx dataReqFrame] := .inr (.inr (.inr rfl))

/-- `t` is `s` with the emissions `es` made: they stand on the trace, and each notification has its pulse
(20_memory.md R44). -/
def Emits (s : State) (es : List Emission) (t : State) : Prop :=
  t.trace = s.trace ++ es ∧
  (t.evAck = true ↔ s.evAck = true ∨ .ev .acked ∈ es) ∧
  (t.evPayload = true ↔ s.evPayload = true ∨ ∃ P, .ev (.payload P) ∈ es)

/-- A part of a step that touches neither the trace nor the pulses emits nothing. -/
theorem Emits.nothing {s t : State} (htrace : t.trace = s.trace) (hack : t.evAck = s.evAck)
    (hpay : t.evPayload = s.evPayload) : Emits s [] t := by
  simp [Emits, htrace, hack, hpay]

theorem Emits.trans {s t u : State} {es es' : List Emission} (h : Emits s es t) (h' : Emits t es' u) :
    Emits s (es ++ es') u := by
  obtain ⟨htrace, hack, hpay⟩ := h
  obtain ⟨htrace', hack', hpay'⟩ := h'
  refine ⟨by rw [htrace', htrace, List.append_assoc], ?_, ?_⟩
  · rw [hack', hack, List.mem_append, or_assoc]
  · simp only [hpay', hpay, List.mem_append, exists_or, or_assoc]

theorem emitTx_emits (f : Frame) (s : State) : Emits s [.tx f] (s.emitTx f) := by simp [Emits]

theorem collect_emits {b : List Byte} (s : State) (hb : b ≠ []) :
    Emits s [] (collect b s) ∨ Emits s [.tx chkReqFrame] (collect b s) := by
  rcases collect_cases s hb with ⟨-, e⟩ | ⟨-, -, e⟩ | ⟨-, -, e⟩ <;> rw [e] <;> simp [Emits]

/-- What a CHUNK step emits; a payload it emits is the interior of the frame buffer of the state Complete
(43_protocol_engine.md R108). -/
theorem chunkStep_emits (b : List Byte) (s : State) :
    ∃ es, EventEmissions es ∧ Emits s es (chunkStep b s) ∧
      ∀ P, .ev (.payload P) ∈ es → (chunkStep b s).pstate = .complete ∧ interior (chunkStep b s).acc = P := by
  have hcol : ∀ u : State, b ≠ [] → ∃ es, EventEmissions es ∧ Emits u es (collect b u) ∧
      ∀ P, .ev (.payload P) ∈ es → (collect b u).pstate = .complete ∧ interior (collect b u).acc = P := by
    intro u hb
    rcases collect_emits u hb with h | h
    · exact ⟨_, .nil, h, by simp⟩
    · exact ⟨_, .frame (.inr (.inr (.inl rfl))), h, by simp⟩
  rcases chunkStep_cases b s with ⟨-, e⟩ | ⟨-, -, -, -, e⟩ | ⟨-, -, -, -, e⟩ | ⟨-, hb, -, -, e⟩ |
    ⟨-, -, -, -, -, -, e⟩ | ⟨-, -, -, -, -, -, e⟩ | ⟨-, hb, -, -, -, -, e⟩ | ⟨-, -, -, -, e⟩ <;> rw [e]
  · exact ⟨[], .nil, by simp [Emits], by simp⟩
  · exact ⟨_, .acked, by simp [Emits, acknowledge_eq], by simp⟩
  · exact ⟨[], .nil, by simp [Emits, dropUnrec_eq], by simp⟩
  · exact hcol s hb
  · exact ⟨_, .payload (interior s.acc), by simp [Emits, validated_eq], by simp [validated_eq]⟩
  · exact ⟨_, .frame (.inr (.inr (.inr rfl))), by simp [Emits, mismatched_eq], by simp⟩
  · exact hcol { s with pstate := .collectingData } hb
  · exact ⟨[], .nil, by simp [Emits, dropUnrec_eq], by simp⟩

/-- `t` reports at most one condition more than `s`. -/
def ReportsAtMostOne (s t : State) : Prop := ∃ cs, t.conds = s.conds ++ cs ∧ cs.length ≤ 1

theorem ReportsAtMostOne.none {s t : State} (h : t.conds = s.conds) : ReportsAtMostOne s t :=
  ⟨[], by simp [h], by simp⟩

theorem ReportsAtMostOne.one {s t : State} {c : Condition} (h : t.conds = s.conds ++ [c]) : ReportsAtMostOne s t :=
  ⟨[c], h, le_rfl⟩

theorem collect_reports {b : List Byte} (s : State) (hb : b ≠ []) : ReportsAtMostOne s (collect b s) := by
  rcases collect_cases s hb with ⟨-, e⟩ | ⟨-, -, e⟩ | ⟨-, -, e⟩ <;> rw [e]
  · exact .one rfl
  · exact .none rfl
  · exact .none rfl

theorem chunkStep_reports (b : List Byte) (s : State) : ReportsAtMostOne s (chunkStep b s) := by
  rcases chunkStep_cases b s with ⟨-, e⟩ | ⟨-, -, -, -, e⟩ | ⟨-, -, -, -, e⟩ | ⟨-, hb, -, -, e⟩ |
    ⟨-, -, -, -, -, -, e⟩ | ⟨-, -, -, -, -, -, e⟩ | ⟨-, hb, -, -, -, -, e⟩ | ⟨-, -, -, -, e⟩ <;> rw [e]
  · exact .none rfl
  · exact .none rfl
  · exact .one rfl
  · exact collect_reports s hb
  · exact .none rfl
  · exact .one rfl
  · exact collect_reports { s with pstate := .collectingData } hb
  · exact .one rfl

/-- `t` has the emissions and the conditions of at most one event more than `s`. -/
def WithinOneEvent (s t : State) : Prop :=
  (∃ es, t.trace = s.trace ++ es ∧ EventEmissions es) ∧ ReportsAtMostOne s t

theorem WithinOneEvent.silent {s t : State} (htrace : t.trace = s.trace) (hconds : t.conds = s.conds) :
    WithinOneEvent s t :=
  ⟨⟨[], by simp [htrace], .nil⟩, .none hconds⟩

theorem chunkStep_withinOneEvent (b : List Byte) (s : State) : WithinOneEvent s (chunkStep b s) := by
  obtain ⟨es, hes, ⟨htrace, -⟩, -⟩ := chunkStep_emits b s
  exact ⟨⟨es, htrace, hes⟩, chunkStep_reports b s⟩

theorem tickStep_withinOneEvent (x : TimeSample) (s : State) : WithinOneEvent s (tickStep x s) := by
  rcases tickStep_cases x s with ⟨-, e⟩ | ⟨-, -, -, e⟩ | ⟨-, -, -, e⟩ <;> rw [e]
  · exact .silent rfl rfl
  · exact ⟨⟨_, rfl, .frame (.inl ⟨x, rfl⟩)⟩, .none rfl⟩
  · exact .silent rfl rfl

/-- Settles O42: by the event; only a CHUNK and a TICK emit or report anything. -/
theorem oneEventEmitsAtMostOneFrameAndOneNotification :
    Obligations.OneEventEmitsAtMostOneFrameAndOneNotification := by
  intro i s t hi hexec
  rw [exec_eq_after] at hexec
  injection hexec with hafter
  subst hafter
  exact after_external_induct (P := WithinOneEvent s) s hi (.silent rfl rfl) (.silent rfl rfl) (.silent rfl rfl)
    (fun b => chunkStep_withinOneEvent b s) (fun x => tickStep_withinOneEvent x s) (fun _ => .silent rfl rfl)

end Sys2Proof.Machine
end

section
/-! SUPPORT. A clock cycle in its stages (20_memory.md R42), and what each stage does to the port-level state of
10_state.md R19, said once. -/

namespace Sys2Proof.Machine

/-! ### The fields that two states with the same event-level view share -/

theorem SameEvents.symm' {s t : State} (h : SameEvents s t) : SameEvents t s := ⟨h.1.symm, h.2.symm⟩
theorem SameEvents.conn {s t : State} (h : SameEvents s t) : s.conn = t.conn := congrArg EventView.conn h.1
theorem SameEvents.ack {s t : State} (h : SameEvents s t) : s.ack = t.ack := congrArg EventView.ack h.1
theorem SameEvents.tmrRun {s t : State} (h : SameEvents s t) : s.tmrRun = t.tmrRun := congrArg EventView.tmrRun h.1
theorem SameEvents.trace {s t : State} (h : SameEvents s t) : s.trace = t.trace := congrArg EventView.trace h.1

/-! ### Frames of the parts -/

/-- The transfer on TX touches the queue only. -/
@[simp] theorem txTransfer_frame (r : Bool) (s : State) :
    (txTransfer r s).rxBuf = s.rxBuf ∧ (txTransfer r s).rxAbandon = s.rxAbandon ∧
    (txTransfer r s).tickPending = s.tickPending ∧ (txTransfer r s).evAck = s.evAck ∧
    (txTransfer r s).evPayload = s.evPayload := by
  unfold txTransfer
  split
  · simp
  · split
    · split <;> simp
    · simp

theorem txTransfer_idle (s : State) : txTransfer false s = s := by
  unfold txTransfer
  split <;> rfl

theorem txTransfer_length_le (r : Bool) (s : State) : (txTransfer r s).txq.length ≤ s.txq.length := by
  unfold txTransfer
  split
  · exact le_rfl
  next f rest hq =>
    split
    · split
      · exact le_rfl
      · simp [hq]
    · exact le_rfl

@[simp] theorem rxClose_last (d : Byte) (s : State) :
    rxClose (some (d, true)) s = { s with rxBuf := [], rxAbandon := false } := rfl
@[simp] theorem rxClose_other (d : Byte) (s : State) : rxClose (some (d, false)) s = s := rfl
@[simp] theorem rxClose_none (s : State) : rxClose none s = s := rfl

/-- The end of a chunk touches the bytes kept of it only. -/
@[simp] theorem rxClose_frame (x : Option (Byte × Bool)) (s : State) :
    (rxClose x s).txq = s.txq ∧ (rxClose x s).txPos = s.txPos ∧ (rxClose x s).tickPending = s.tickPending ∧
    (rxClose x s).evAck = s.evAck ∧ (rxClose x s).evPayload = s.evPayload := by
  unfold rxClose
  split <;> simp

@[simp] theorem rxKeep_last (g : Bool) (d : Byte) (s : State) : rxKeep g (some (d, true)) s = s := rfl
@[simp] theorem rxKeep_none (g : Bool) (s : State) : rxKeep g none s = s := rfl

/-- A byte of a chunk that is lost starts or continues the discarding. -/
theorem rxKeep_lost {g : Bool} {s : State} (d : Byte) (h : g = true ∨ s.conn = false) :
    rxKeep g (some (d, false)) s = { s with rxAbandon := true } := by
  have hlost : (g || !s.conn) = true := by simpa using h
  simp [rxKeep, hlost]

/-- A byte of a chunk that is not lost is kept. -/
theorem rxKeep_kept {s : State} (d : Byte) (h : s.conn = true) :
    rxKeep false (some (d, false)) s = { s with rxBuf := s.rxBuf ++ [d] } := by
  simp [rxKeep, h]

/-- The keeping of a byte touches the bytes kept only. -/
@[simp] theorem rxKeep_frame (g : Bool) (x : Option (Byte × Bool)) (s : State) :
    (rxKeep g x s).txq = s.txq ∧ (rxKeep g x s).txPos = s.txPos ∧ (rxKeep g x s).tickPending = s.tickPending ∧
    (rxKeep g x s).evAck = s.evAck ∧ (rxKeep g x s).evPayload = s.evPayload := by
  unfold rxKeep
  split
  · split <;> simp
  · simp

/-- The timer's clock touches the counter and the pending tick only. -/
@[simp] theorem timerClock_frame (s : State) :
    (timerClock s).rxBuf = s.rxBuf ∧ (timerClock s).rxAbandon = s.rxAbandon ∧ (timerClock s).txq = s.txq ∧
    (timerClock s).txPos = s.txPos ∧ (timerClock s).evAck = s.evAck ∧ (timerClock s).evPayload = s.evPayload := by
  unfold timerClock
  split
  · split <;> simp
  · simp

/-- A pending tick stays pending. -/
theorem timerClock_tickPending {s : State} (h : s.tickPending = true) : (timerClock s).tickPending = true := by
  unfold timerClock
  split
  · split <;> simp [h]
  · exact h

/-! ### DISCONNECT and CONNECT of a cycle -/

theorem portControl_none {p : PortIn} (s : State) (h : p.control = false) : portControl p s = s := by
  simp only [PortIn.control, Bool.or_eq_false_iff] at h
  simp [portControl, h]

/-- What the control events of a cycle do below the event level, and whether a connection exists after them. -/
@[simp] theorem portControl_frame (p : PortIn) (s : State) :
    (portControl p s).conn = (p.connStart || s.conn && !p.connStop) ∧
    (portControl p s).rxBuf = (if p.control then [] else s.rxBuf) ∧
    (portControl p s).rxAbandon = (s.rxAbandon || p.control && !s.rxBuf.isEmpty) ∧
    (portControl p s).tickPending = (s.tickPending && !p.control) ∧
    (portControl p s).txq = (if p.connStop then [] else s.txq) ∧
    (portControl p s).txPos = (if p.connStop then 0 else s.txPos) ∧
    (portControl p s).trace = s.trace ∧
    (portControl p s).evAck = s.evAck ∧ (portControl p s).evPayload = s.evPayload := by
  cases hstop : p.connStop <;> cases hstart : p.connStart <;>
    simp [portControl, PortIn.control, hstop, hstart, connectStep, disconnectStep]

theorem portControl_same (p : PortIn) {s t : State} (h : SameEvents s t) :
    SameEvents (portControl p s) (portControl p t) := by
  have hstop : SameEvents (if p.connStop then disconnectStep s else s)
      (if p.connStop then disconnectStep t else t) := by
    split
    · exact disconnectStep_same h
    · exact h
  cases hstart : p.connStart with
  | true => simpa [portControl, hstart] using connectStep_same hstop
  | false => simpa [portControl, hstart] using hstop

/-! ### CHUNK and TICK of a cycle -/

theorem portChunk_same (b : Option (List Byte)) {s t : State} (h : SameEvents s t) :
    SameEvents (portChunk b s) (portChunk b t) := by
  cases b with
  | none => exact h
  | some b => exact chunkStep_same b h

/-- Without a connection a chunk is ignored (44_connection_control.md R124). -/
theorem portChunk_unconnected (b : Option (List Byte)) {s : State} (h : s.conn = false) : portChunk b s = s := by
  cases b with
  | none => rfl
  | some b => simp [portChunk, chunkStep, h]

/-- A chunk touches neither the bytes kept of the next one nor the pending tick nor the position on TX. -/
@[simp] theorem portChunk_frame (b : Option (List Byte)) (s : State) :
    (portChunk b s).rxBuf = s.rxBuf ∧ (portChunk b s).rxAbandon = s.rxAbandon ∧ (portChunk b s).txPos = s.txPos ∧
    (portChunk b s).tickPending = s.tickPending := by
  cases b with
  | none => simp [portChunk]
  | some b =>
    obtain ⟨hbuf, haband, hpos, hpend, -⟩ := chunkStep_port b s
    exact ⟨hbuf, haband, hpos, hpend⟩

/-- Everything the tick of a cycle can do (20_memory.md R42, 42_handshake_timer.md R87). -/
theorem portTick_cases (x : TimeSample) (s : State) :
    (s.tickDue = false ∧ portTick x s = s) ∨
    (s.tickDue = true ∧ (s.conn = false ∨ s.tmrRun = false) ∧ portTick x s = { s with tickPending := false }) ∨
    (s.tickDue = true ∧ s.conn = true ∧ s.tmrRun = true ∧ s.ack = false ∧
      portTick x s = { s with tickPending := false }.emitTx (timesyncFrame x)) ∨
    (s.tickDue = true ∧ s.conn = true ∧ s.tmrRun = true ∧ s.ack = true ∧ portTick x s = s.stopTimer) := by
  cases hd : s.tickDue with
  | false => simp [portTick, hd]
  | true =>
    cases hc : s.conn <;> cases hr : s.tmrRun <;> cases ha : s.ack <;>
      simp [portTick, hd, fireTick, State.tickEnabled, hc, hr, ha, State.stopTimer, State.freeCnt]

/-- A tick touches neither the bytes kept of a chunk, nor the position on TX, nor what a payload is read from. -/
@[simp] theorem portTick_frame (x : TimeSample) (s : State) :
    (portTick x s).rxBuf = s.rxBuf ∧ (portTick x s).rxAbandon = s.rxAbandon ∧ (portTick x s).txPos = s.txPos ∧
    (portTick x s).pstate = s.pstate ∧ (portTick x s).acc = s.acc := by
  rcases portTick_cases x s with ⟨-, e⟩ | ⟨-, -, e⟩ | ⟨-, -, -, -, e⟩ | ⟨-, -, -, -, e⟩ <;> simp [e]

theorem portTick_not_due (x : TimeSample) {s : State} (h : s.tickDue = false) : portTick x s = s := by
  simp [portTick, h]

/-- Without a pending tick or without a connection no tick is seen at the event level (42_handshake_timer.md R86). -/
theorem portTick_unseen (x : TimeSample) {s : State} (h : s.tickPending = false ∨ s.conn = false) :
    SameEvents (portTick x s) s := by
  rcases h with h | h
  · rw [portTick_not_due x (by simp [State.tickDue, h])]
    exact .rfl' s
  · rcases portTick_cases x s with ⟨-, e⟩ | ⟨-, -, e⟩ | ⟨-, hc, -, -, -⟩ | ⟨-, hc, -, -, -⟩
    · rw [e]; exact .rfl' s
    · rw [e]; exact ⟨rfl, rfl⟩
    · rw [h] at hc; cases hc
    · rw [h] at hc; cases hc

/-- The samples of the ticks that are processed when a cycle has come to its tick: at most the cycle's own. -/
def tickSamples (x : TimeSample) (s : State) : List TimeSample := if s.tickDue then [x] else []

theorem tickSamples_cases (x : TimeSample) (s : State) :
    (s.tickDue = false ∧ tickSamples x s = []) ∨ (s.tickDue = true ∧ tickSamples x s = [x]) := by
  cases h : s.tickDue <;> simp [tickSamples, h]

/-! ### The cycle -/

/-- The cycle's transfers, on TX and of a chunk's last byte, before any event of it. -/
def cycleTransfers (p : PortIn) (s : State) : State :=
  rxClose (rxTransfer p s) (txTransfer p.txReady (cycleStart p s))

/-- The cycle after its DISCONNECT and CONNECT. -/
def cycleControl (p : PortIn) (s : State) : State := portControl p (timerClock (cycleTransfers p s))

/-- The cycle when a byte that ends no chunk has been kept or discarded. -/
def cycleKeep (p : PortIn) (s : State) : State := rxKeep (s.rxDiscards p) (rxTransfer p s) (cycleControl p s)

/-- The cycle after its CHUNK. -/
def cycleChunk (p : PortIn) (s : State) : State := portChunk (rxCompleted p (rxTransfer p s) s) (cycleKeep p s)

theorem portCycle_of_rst {p : PortIn} (s : State) (h : p.rst = true) :
    portCycle p s = rxLost (rxTransfer p s) (hresetStep (cycleTransfers p s)) := by
  simp [portCycle, h, cycleTransfers]

theorem portCycle_of_not_rst {p : PortIn} (s : State) (h : p.rst = false) :
    portCycle p s = portTick p.rtc (cycleChunk p s) := by
  simp [portCycle, h, cycleChunk, cycleKeep, cycleControl, cycleTransfers]

theorem cycleTransfers_same (p : PortIn) (s : State) : SameEvents (cycleTransfers p s) s :=
  (rxClose_same _ _).trans' ((txTransfer_same _ _).trans' (cycleStart_same p s))

@[simp] theorem cycleTransfers_frame (p : PortIn) (s : State) :
    (cycleTransfers p s).tickPending = s.tickPending ∧
    (cycleTransfers p s).txq = (txTransfer p.txReady (cycleStart p s)).txq ∧
    (cycleTransfers p s).txPos = (txTransfer p.txReady (cycleStart p s)).txPos ∧
    (cycleTransfers p s).evAck = false ∧ (cycleTransfers p s).evPayload = false := by
  simp [cycleTransfers, cycleStart]

theorem cycleControl_same (p : PortIn) (s : State) : SameEvents (cycleControl p s) (portControl p s) :=
  portControl_same p ((timerClock_same _).trans' (cycleTransfers_same p s))

theorem cycleKeep_same (p : PortIn) (s : State) : SameEvents (cycleKeep p s) (portControl p s) :=
  (rxKeep_same _ _ _).trans' (cycleControl_same p s)

theorem cycleChunk_same (p : PortIn) (s : State) :
    SameEvents (cycleChunk p s) (portChunk (rxCompleted p (rxTransfer p s) s) (portControl p s)) :=
  portChunk_same _ (cycleKeep_same p s)

@[simp] theorem cycleControl_conn (p : PortIn) (s : State) :
    (cycleControl p s).conn = (p.connStart || s.conn && !p.connStop) := by
  rw [(cycleControl_same p s).conn]
  simp

@[simp] theorem cycleKeep_frame (p : PortIn) (s : State) :
    (cycleKeep p s).tickPending = ((timerClock (cycleTransfers p s)).tickPending && !p.control) ∧
    (cycleKeep p s).evAck = false ∧ (cycleKeep p s).evPayload = false ∧ (cycleKeep p s).trace = s.trace := by
  have htrace : (cycleKeep p s).trace = s.trace := by
    rw [(cycleKeep_same p s).trace]
    simp
  refine ⟨?_, ?_, ?_, htrace⟩ <;> simp [cycleKeep, cycleControl]

/-- The queue of a cycle before its events: what the transfer on TX left of it, unless a DISCONNECT empties it. -/
@[simp] theorem cycleKeep_queue {p : PortIn} (s : State) (h : p.connStop = false) :
    (cycleKeep p s).txq = (txTransfer p.txReady (cycleStart p s)).txq ∧
    (cycleKeep p s).txPos = (txTransfer p.txReady (cycleStart p s)).txPos := by
  simp [cycleKeep, cycleControl, h]

/-! ### The bytes kept of a chunk after a cycle (20_memory.md R45) -/

theorem portCycle_rx {p : PortIn} (s : State) (h : p.rst = false) :
    (portCycle p s).rxBuf = (cycleKeep p s).rxBuf ∧ (portCycle p s).rxAbandon = (cycleKeep p s).rxAbandon := by
  simp [portCycle_of_not_rst s h, cycleChunk]

/-- The bytes kept after the control events, when the byte transferred ends no chunk. -/
theorem cycleControl_rx {p : PortIn} {s : State} {d : Byte} (hx : rxTransfer p s = some (d, false)) :
    (cycleControl p s).rxBuf = (if p.control then [] else s.rxBuf) ∧
    (cycleControl p s).rxAbandon = (s.rxAbandon || p.control && !s.rxBuf.isEmpty) := by
  simp [cycleControl, cycleTransfers, hx, cycleStart]

/-- No byte is transferred: a control event abandons what is kept. -/
theorem cycleKeep_rx_none {p : PortIn} {s : State} (hx : rxTransfer p s = none) :
    (cycleKeep p s).rxBuf = (if p.control then [] else s.rxBuf) ∧
    (cycleKeep p s).rxAbandon = (s.rxAbandon || p.control && !s.rxBuf.isEmpty) := by
  simp [cycleKeep, cycleControl, cycleTransfers, hx, cycleStart]

/-- The last byte of a chunk is transferred: nothing is kept and nothing discarded any more. -/
theorem cycleKeep_rx_last {p : PortIn} {s : State} {d : Byte} (hx : rxTransfer p s = some (d, true)) :
    (cycleKeep p s).rxBuf = [] ∧ (cycleKeep p s).rxAbandon = false := by
  simp [cycleKeep, cycleControl, cycleTransfers, hx]

/-- Another byte of a chunk that is lost: nothing is added, the rest is being discarded. -/
theorem cycleKeep_rx_lost {p : PortIn} {s : State} {d : Byte} (hx : rxTransfer p s = some (d, false))
    (h : s.rxDiscards p = true ∨ (cycleControl p s).conn = false) :
    (cycleKeep p s).rxBuf = (if p.control then [] else s.rxBuf) ∧ (cycleKeep p s).rxAbandon = true := by
  rw [cycleKeep, hx, rxKeep_lost d h]
  exact ⟨(cycleControl_rx hx).1, rfl⟩

/-- Another byte of a chunk that is not lost, in a cycle without control events: it is kept. -/
theorem cycleKeep_rx_kept {p : PortIn} {s : State} {d : Byte} (hx : rxTransfer p s = some (d, false))
    (hctl : p.control = false) (hd : s.rxDiscards p = false) (hc : s.conn = true) :
    (cycleKeep p s).rxBuf = s.rxBuf ++ [d] ∧ (cycleKeep p s).rxAbandon = s.rxAbandon := by
  have hconn : (cycleControl p s).conn = true := by
    rw [(cycleControl_same p s).conn, portControl_none s hctl, hc]
  rw [cycleKeep, hx, hd, rxKeep_kept d hconn]
  simp [cycleControl_rx hx, hctl]

end Sys2Proof.Machine
end

section
/-! SUPPORT. The port-level invariant, kept by every stage of a clock cycle (20_memory.md R45, R46,
42_handshake_timer.md R89, R90). -/

namespace Sys2Proof.Machine

/-! ### The transmit queue -/

/-- The items of the invariant that speak of the transmit queue. -/
def QueueOk (depth : Nat) (q : List Frame) (pos : Nat) : Prop :=
  q.length ≤ depth ∧ (∀ f ∈ q.head?, pos < f.length) ∧ (q = [] → pos = 0) ∧ ∀ f ∈ q, f ≠ []

theorem QueueOk.nil (depth : Nat) : QueueOk depth [] 0 := by simp [QueueOk]

/-- The first frame has left. -/
theorem QueueOk.tail {depth pos : Nat} {f : Frame} {q : List Frame} (h : QueueOk depth (f :: q) pos) :
    QueueOk depth q 0 := by
  obtain ⟨hlen, -, -, hne⟩ := h
  refine ⟨Nat.le_of_succ_le hlen, fun g hg => ?_, fun _ => rfl, fun g hg => hne g (List.mem_cons_of_mem f hg)⟩
  exact List.length_pos_iff.2 (hne g (List.mem_cons_of_mem f (List.mem_of_mem_head? hg)))

/-- A byte of the first frame has left that is not its last. -/
theorem QueueOk.advance {depth pos : Nat} {f : Frame} {q : List Frame} (h : QueueOk depth (f :: q) pos)
    (hpos : pos + 1 < f.length) : QueueOk depth (f :: q) (pos + 1) := by
  obtain ⟨hlen, -, -, hne⟩ := h
  exact ⟨hlen, by simpa using hpos, by simp, hne⟩

/-- A frame joins a queue that has room. -/
theorem QueueOk.enqueue {depth pos : Nat} {f : Frame} {q : List Frame} (h : QueueOk depth q pos)
    (hroom : q.length < depth) (hf : f ≠ []) : QueueOk depth (q ++ [f]) pos := by
  obtain ⟨-, hhead, hpos, hne⟩ := h
  refine ⟨by simpa using hroom, ?_, by simp, by simpa [or_imp, forall_and] using ⟨hne, hf⟩⟩
  cases q with
  | nil => simpa [hpos rfl] using List.length_pos_iff.2 hf
  | cons g q => simpa using hhead

theorem txTransfer_queueOk (r : Bool) {depth : Nat} {s : State} (h : QueueOk depth s.txq s.txPos) :
    QueueOk depth (txTransfer r s).txq (txTransfer r s).txPos := by
  unfold txTransfer
  split
  · exact h
  next f q hq =>
    have h' := h
    rw [hq] at h'
    split
    · split
      next hpos => simpa [hq] using h'.advance hpos
      next => exact h'.tail
    · exact h

/-! ### The invariant -/

/-- `PortInv` with the queue's items as one. -/
theorem State.portInv_iff (s : State) :
    s.PortInv ↔
      QueueOk s.cfg.txqDepth s.txq s.txPos ∧ (s.conn = false → s.txq = [] ∧ s.rxBuf = []) ∧
      (s.tmrRun = true → s.tmrCnt < s.cfg.tickDiv) ∧ (s.tickPending = true → s.tmrRun = true) ∧
      (s.rxAbandon = true → s.rxBuf = [] ∧ (s.conn = true → s.ack = false)) := by
  simp [State.PortInv, QueueOk, and_assoc]

/-- A period has at least one clock cycle (00_scope.md R6). -/
theorem Config.tickDiv_pos {c : Config} (h : c.wf) : 0 < c.tickDiv := by
  obtain ⟨-, -, hclk, -⟩ := h
  simpa [Config.tickDiv, tickPeriodMs] using Nat.lt_of_lt_of_le Nat.one_pos hclk

/-- The first delay is a period (D10). -/
theorem Config.firstDelayCycles_eq_tickDiv (c : Config) : c.firstDelayCycles = c.tickDiv := by
  simp [Config.firstDelayCycles, Config.tickDiv, timerFirstDelayMs, tickPeriodMs, Nat.mul_comm]

theorem cycleStart_portInv (p : PortIn) {s : State} (h : s.PortInv) : (cycleStart p s).PortInv := h

theorem txTransfer_portInv (r : Bool) {s : State} (h : s.PortInv) : (txTransfer r s).PortInv := by
  have hsame := txTransfer_same r s
  obtain ⟨hq, hidle, hcnt, hpend, hab⟩ := s.portInv_iff.1 h
  have hcntEq : (txTransfer r s).tmrCnt = s.tmrCnt := by
    unfold txTransfer
    split
    · rfl
    · split
      · split <;> rfl
      · rfl
  rw [State.portInv_iff, hsame.2, hsame.conn, hsame.tmrRun, hsame.ack, hcntEq]
  refine ⟨txTransfer_queueOk r hq, fun hc => ?_, hcnt, by simpa using hpend, by simpa using hab⟩
  obtain ⟨hnil, hbuf⟩ := hidle hc
  have hlen := txTransfer_length_le r s
  exact ⟨by simpa [hnil] using hlen, by simpa using hbuf⟩

theorem rxClose_portInv (x : Option (Byte × Bool)) {s : State} (h : s.PortInv) : (rxClose x s).PortInv := by
  obtain ⟨hq, hidle, hcnt, hpend, -⟩ := s.portInv_iff.1 h
  unfold rxClose
  split
  · rw [State.portInv_iff]
    exact ⟨hq, fun hc => ⟨(hidle hc).1, rfl⟩, hcnt, hpend, by simp⟩
  · exact h

/-- The running counter stays inside its period, and a tick becomes ready only while it runs. -/
theorem timerClock_portInv {s : State} (hwf : s.cfg.wf) (h : s.PortInv) : (timerClock s).PortInv := by
  obtain ⟨hq, hidle, hcnt, hpend, hab⟩ := s.portInv_iff.1 h
  unfold timerClock
  split
  next hrun =>
    split
    · rw [State.portInv_iff]
      exact ⟨hq, hidle, fun _ => Nat.sub_lt (Config.tickDiv_pos hwf) Nat.one_pos, fun _ => hrun, hab⟩
    · rw [State.portInv_iff]
      exact ⟨hq, hidle, fun _ => Nat.lt_of_le_of_lt (Nat.sub_le _ _) (hcnt hrun), hpend, hab⟩
  next hrun =>
    rw [State.portInv_iff]
    exact ⟨hq, hidle, fun hr => absurd hr hrun, hpend, hab⟩

theorem hresetStep_portInv (s : State) : (hresetStep s).PortInv := by
  rw [State.portInv_iff]
  simp [hresetStep, QueueOk.nil]

theorem disconnectStep_portInv (s : State) : (disconnectStep s).PortInv := by
  rw [State.portInv_iff]
  simp [disconnectStep, QueueOk.nil]

theorem connectStep_portInv {s : State} (hwf : s.cfg.wf) (h : s.PortInv) : (connectStep s).PortInv := by
  obtain ⟨hq, -⟩ := s.portInv_iff.1 h
  rw [State.portInv_iff]
  simpa [connectStep, hq, Config.firstDelayCycles_eq_tickDiv] using (Config.tickDiv_pos hwf)

theorem portControl_portInv (p : PortIn) {s : State} (hwf : s.cfg.wf) (h : s.PortInv) : (portControl p s).PortInv := by
  cases hstart : p.connStart <;> cases hstop : p.connStop <;> simp only [portControl, hstart, hstop]
  · exact h
  · exact disconnectStep_portInv s
  · exact connectStep_portInv hwf h
  · exact connectStep_portInv ((disconnectStep_kept s).1 ▸ hwf) (disconnectStep_portInv s)

/-- What keeps the invariant when a byte comes that ends no chunk: of a chunk that is lost nothing is kept and the
connection, if there is one, is unacknowledged; a chunk that is not lost is not being discarded. -/
theorem rxKeep_portInv {g : Bool} (d : Byte) {s : State} (h : s.PortInv)
    (hlost : g = true → s.rxBuf = [] ∧ (s.conn = true → s.ack = false)) (hkept : g = false → s.rxAbandon = false) :
    (rxKeep g (some (d, false)) s).PortInv := by
  obtain ⟨hq, hidle, hcnt, hpend, -⟩ := s.portInv_iff.1 h
  by_cases hg : g = true ∨ s.conn = false
  · rw [rxKeep_lost d hg, State.portInv_iff]
    refine ⟨hq, hidle, hcnt, hpend, fun _ => ?_⟩
    rcases hg with hg | hc
    · exact hlost hg
    · exact ⟨(hidle hc).2, fun hc' => by simp [hc] at hc'⟩
  · obtain ⟨rfl, hc⟩ : g = false ∧ s.conn = true := by simpa using hg
    rw [rxKeep_kept d hc, State.portInv_iff]
    exact ⟨hq, by simp [hc], hcnt, hpend, by simp [hkept rfl]⟩

/-- A chunk adds at most one frame, for which there is room, within a connection. -/
theorem chunkStep_portInv (b : List Byte) {s : State} (h : s.PortInv) (hroom : s.txq.length < s.cfg.txqDepth)
    (hab : s.rxAbandon = false) : (chunkStep b s).PortInv := by
  obtain ⟨hq, hidle, hcnt, hpend, -⟩ := s.portInv_iff.1 h
  obtain ⟨ebuf, eab, epos, epend, ecnt, erun, econn, equeue⟩ := chunkStep_port b s
  rw [State.portInv_iff, (chunkStep_kept b s).1, ebuf, eab, epos, epend, ecnt, erun, econn]
  rcases equeue with ⟨eq, -⟩ | ⟨hc, f, hf, eq, -⟩ <;> rw [eq]
  · exact ⟨hq, hidle, hcnt, hpend, by simp [hab]⟩
  · exact ⟨hq.enqueue hroom hf, by simp [hc], hcnt, hpend, by simp [hab]⟩

/-- A tick is processed only where there is room for its frame. -/
theorem portTick_portInv (x : TimeSample) {s : State} (h : s.PortInv) : (portTick x s).PortInv := by
  obtain ⟨hq, hidle, hcnt, -, hab⟩ := s.portInv_iff.1 h
  rcases portTick_cases x s with ⟨-, e⟩ | ⟨-, -, e⟩ | ⟨hdue, hc, -, ha, e⟩ | ⟨-, -, -, -, e⟩ <;>
    rw [e]
  · exact h
  · rw [State.portInv_iff]
    exact ⟨hq, hidle, hcnt, by simp, hab⟩
  · obtain ⟨-, -, hroom⟩ := s.tickDue_iff.1 hdue
    rw [State.portInv_iff]
    exact ⟨hq.enqueue hroom (by simp [timesyncFrame]), by simp [hc], hcnt, by simp, hab⟩
  · rw [State.portInv_iff]
    exact ⟨hq, hidle, by simp, by simp, hab⟩

/-! ### The cycle -/

theorem cycleTransfers_portInv (p : PortIn) {s : State} (h : s.PortInv) : (cycleTransfers p s).PortInv :=
  rxClose_portInv _ (txTransfer_portInv _ (cycleStart_portInv p h))

theorem cycleControl_portInv (p : PortIn) {s : State} (hwf : s.cfg.wf) (h : s.PortInv) :
    (cycleControl p s).PortInv := by
  have hcfg := (cycleTransfers_same p s).2
  refine portControl_portInv p ?_ (timerClock_portInv (hcfg ▸ hwf) (cycleTransfers_portInv p h))
  rw [(timerClock_same _).2, hcfg]
  exact hwf

/-- A CONNECT or DISCONNECT leaves an unacknowledged engine (44_connection_control.md R121, R122). -/
theorem portControl_ack {p : PortIn} (s : State) (h : p.control = true) : (portControl p s).ack = false := by
  cases hstart : p.connStart with
  | true => simp [portControl, hstart, connectStep]
  | false =>
    have hstop : p.connStop = true := by simpa [PortIn.control, hstart] using h
    simp [portControl, hstart, hstop, disconnectStep]

/-- Of a chunk that is lost nothing is kept after the control events, and the connection, if there is one, is
unacknowledged (20_memory.md R45). -/
theorem cycleControl_of_rxDiscards {p : PortIn} {s : State} {d : Byte} (h : s.PortInv)
    (hx : rxTransfer p s = some (d, false)) (hd : s.rxDiscards p = true) :
    (cycleControl p s).rxBuf = [] ∧ ((cycleControl p s).conn = true → (cycleControl p s).ack = false) := by
  obtain ⟨-, hidle, -, -, hab⟩ := s.portInv_iff.1 h
  have hsame := cycleControl_same p s
  rw [(cycleControl_rx hx).1, hsame.conn, hsame.ack]
  cases hctl : p.control with
  | true => exact ⟨rfl, fun _ => portControl_ack s hctl⟩
  | false =>
    rw [portControl_none s hctl]
    rcases (s.rxDiscards_iff p).1 hd with ha | hc | ⟨hctl', -⟩
    · simpa using hab ha
    · simpa [hc] using (hidle hc).2
    · simp [hctl] at hctl'

/-- A chunk that is not lost is not being discarded after the control events. -/
theorem cycleControl_of_not_rxDiscards {p : PortIn} {s : State} {d : Byte}
    (hx : rxTransfer p s = some (d, false)) (hd : s.rxDiscards p = false) : (cycleControl p s).rxAbandon = false := by
  rw [(cycleControl_rx hx).2]
  simp only [State.rxDiscards, Bool.or_eq_false_iff] at hd ⊢
  exact ⟨hd.1.1, hd.2⟩

theorem cycleKeep_portInv (p : PortIn) {s : State} (hwf : s.cfg.wf) (h : s.PortInv) : (cycleKeep p s).PortInv := by
  have hctl := cycleControl_portInv p hwf h
  unfold cycleKeep
  rcases hx : rxTransfer p s with _ | ⟨d, _ | _⟩
  · exact hctl
  · exact rxKeep_portInv d hctl (cycleControl_of_rxDiscards h hx) (cycleControl_of_not_rxDiscards hx)
  · exact hctl

/-- No event of the cycle has made the queue longer yet. -/
theorem cycleKeep_length_le (p : PortIn) (s : State) : (cycleKeep p s).txq.length ≤ s.txq.length := by
  have hlen : (txTransfer p.txReady (cycleStart p s)).txq.length ≤ s.txq.length := txTransfer_length_le _ _
  cases hstop : p.connStop with
  | true => simp [cycleKeep, cycleControl, hstop]
  | false => rwa [(cycleKeep_queue s hstop).1]

theorem cycleKeep_cfg (p : PortIn) (s : State) : (cycleKeep p s).cfg = s.cfg := by
  rw [(cycleKeep_same p s).2]
  cases hstart : p.connStart <;> cases hstop : p.connStop <;> simp only [portControl, hstart, hstop]
  · rfl
  · exact (disconnectStep_kept s).1
  · exact (connectStep_kept s).1
  · exact (connectStep_kept _).1.trans (disconnectStep_kept s).1

/-- The byte that completes a chunk was accepted within a connection, so the queue has room (20_memory.md R46). -/
theorem queue_room_of_rxCompleted {p : PortIn} {s : State} {b : List Byte}
    (h : rxCompleted p (rxTransfer p s) s = some b) : s.txq.length < s.cfg.txqDepth := by
  obtain ⟨d, hx, hd, -⟩ := (rxCompleted_iff _ _ _ _).1 h
  have hready : s.rxReady = true := by
    by_contra hr
    simp [rxTransfer, hr] at hx
  have hc : s.conn = true := by
    simp only [State.rxDiscards, Bool.or_eq_false_iff] at hd
    simpa using hd.1.2
  simpa [State.rxReady_iff, hc] using hready

theorem cycleChunk_portInv (p : PortIn) {s : State} (hwf : s.cfg.wf) (h : s.PortInv) : (cycleChunk p s).PortInv := by
  have hkeep := cycleKeep_portInv p hwf h
  unfold cycleChunk
  cases hb : rxCompleted p (rxTransfer p s) s with
  | none => exact hkeep
  | some b =>
    obtain ⟨d, hx, -, -⟩ := (rxCompleted_iff _ _ _ _).1 hb
    refine chunkStep_portInv b hkeep ?_ (cycleKeep_rx_last hx).2
    rw [cycleKeep_cfg]
    exact Nat.lt_of_le_of_lt (cycleKeep_length_le p s) (queue_room_of_rxCompleted hb)

theorem rxLost_portInv (x : Option (Byte × Bool)) {s : State} (h : s.PortInv) (hbuf : s.rxBuf = [])
    (hc : s.conn = false) : (rxLost x s).PortInv := by
  obtain ⟨hq, hidle, hcnt, hpend, -⟩ := s.portInv_iff.1 h
  unfold rxLost
  split
  · rw [State.portInv_iff]
    exact ⟨hq, hidle, hcnt, hpend, fun _ => ⟨hbuf, by simp [hc]⟩⟩
  · exact h

/-- Settles O39: HRESET establishes the invariant, and every stage of another cycle keeps it. -/
theorem everyCycleKeepsThePortInvariant : Obligations.EveryCycleKeepsThePortInvariant := by
  intro p s hwf h
  cases hrst : p.rst with
  | true =>
    rw [portCycle_of_rst s hrst]
    exact rxLost_portInv _ (hresetStep_portInv _) rfl rfl
  | false =>
    rw [portCycle_of_not_rst s hrst]
    exact portTick_portInv _ (cycleChunk_portInv p hwf h)

end Sys2Proof.Machine
end

section
/-! SUPPORT. A clock cycle as a script of events (00_scope.md R5, 20_memory.md R42). -/

namespace Sys2Proof.Machine

/-! ### Scripts -/

/-- The state after a script. -/
def afterAll (is : List Instr) (s : State) : State := is.foldl (fun s i => after i s) s

theorem runOps_eq_afterAll (is : List Instr) (s : State) : runOps is s = .next (afterAll is s) := runOps_eq is s

@[simp] theorem afterAll_nil (s : State) : afterAll [] s = s := rfl

@[simp] theorem afterAll_cons (i : Instr) (is : List Instr) (s : State) :
    afterAll (i :: is) s = afterAll is (after i s) := rfl

@[simp] theorem afterAll_append (xs ys : List Instr) (s : State) :
    afterAll (xs ++ ys) s = afterAll ys (afterAll xs s) := List.foldl_append

theorem tickStep_congr (x : TimeSample) {s t : State} (h : SameEvents s t) :
    SameEvents (tickStep x s) (tickStep x t) :=
  (tickStep_same x s).trans' ((fireTick_same x h).trans' (tickStep_same x t).symm')

/-- Ticks see the event level only. -/
theorem afterAll_ticks_same (xs : List TimeSample) {s t : State} (h : SameEvents s t) :
    SameEvents (afterAll (xs.map .tick) s) (afterAll (xs.map .tick) t) := by
  induction xs generalizing s t with
  | nil => exact h
  | cons x xs ih => exact ih (tickStep_congr x h)

/-! ### The events of a cycle -/

/-- DISCONNECT and CONNECT of a cycle, in the order of 20_memory.md R42. -/
def controlEvents (p : PortIn) : List Instr :=
  (if p.connStop then [.disconnect] else []) ++ (if p.connStart then [.connect] else [])

/-- The CHUNK of a cycle, if one is complete. -/
def chunkEvents (b : Option (List Byte)) : List Instr := (b.map Instr.chunk).toList

theorem controlEvents_none {p : PortIn} (h : p.control = false) : controlEvents p = [] := by
  simp only [PortIn.control, Bool.or_eq_false_iff] at h
  simp [controlEvents, h]

theorem afterAll_controlEvents (p : PortIn) (s : State) : afterAll (controlEvents p) s = portControl p s := by
  cases hstop : p.connStop <;> cases hstart : p.connStart <;> simp [controlEvents, portControl, hstop, hstart]

theorem afterAll_chunkEvents (b : Option (List Byte)) (s : State) : afterAll (chunkEvents b) s = portChunk b s := by
  cases b <;> rfl

/-- The tick of a cycle is TICK with the sample of the cycle, if it is due. -/
theorem portTick_same_tickSamples (x : TimeSample) (s : State) :
    SameEvents (portTick x s) (afterAll ((tickSamples x s).map .tick) s) := by
  rcases tickSamples_cases x s with ⟨hd, e⟩ | ⟨hd, e⟩ <;> rw [e]
  · rw [portTick_not_due x hd]
    exact .rfl' s
  · have hfire : SameEvents (portTick x s) (fireTick x s) := by
      rw [portTick, hd, if_pos rfl]
      exact fireTick_same x ⟨rfl, rfl⟩
    exact hfire.trans' (tickStep_same x s).symm'

/-- A cycle without reset is its DISCONNECT, CONNECT, CHUNK and TICK, in this order. -/
theorem portCycle_same_events {p : PortIn} (s : State) (h : p.rst = false) :
    SameEvents (portCycle p s)
      (afterAll (controlEvents p ++ chunkEvents (rxCompleted p (rxTransfer p s) s) ++
        (tickSamples p.rtc (cycleChunk p s)).map .tick) s) := by
  rw [portCycle_of_not_rst s h, afterAll_append, afterAll_append, afterAll_controlEvents, afterAll_chunkEvents]
  exact (portTick_same_tickSamples _ _).trans' (afterAll_ticks_same _ (cycleChunk_same p s))

/-- A cycle with `rst = 1` is HRESET alone (20_memory.md R42). -/
theorem portCycle_same_hreset {p : PortIn} (s : State) (h : p.rst = true) :
    SameEvents (portCycle p s) (hresetStep s) := by
  rw [portCycle_of_rst s h]
  exact (rxLost_same _ _).trans' (hresetStep_same (cycleTransfers_same p s))

/-- A due tick finds no chunk in progress, and leaves none (20_memory.md R42). -/
theorem portCycle_rxBuf_of_tickDue {p : PortIn} {s : State} (h : p.rst = false) (hd : (cycleChunk p s).tickDue = true) :
    (portCycle p s).rxBuf = [] := by
  rw [portCycle_of_not_rst s h, (portTick_frame _ _).1]
  exact ((State.tickDue_iff _).1 hd).2.1

/-- The chunk completed in a cycle, in the words of 20_memory.md R44 and R45. -/
theorem chunkEvents_rxCompleted (p : PortIn) (s : State) :
    chunkEvents (rxCompleted p (rxTransfer p s) s) =
      match p.rx with
      | some (d, true) =>
        if s.rxReady = true ∧ s.conn = true ∧ s.rxAbandon = false ∧
            (s.rxBuf = [] ∨ p.connStart = false ∧ p.connStop = false)
        then [.chunk (s.rxBuf ++ [d])] else []
      | _ => [] := by
  rcases hx : p.rx with _ | ⟨d, _ | _⟩
  · simp [rxTransfer, hx, rxCompleted, chunkEvents]
  · cases hr : s.rxReady <;> simp [rxTransfer, hx, hr, rxCompleted, chunkEvents]
  · have hguard : s.rxReady = true ∧ s.conn = true ∧ s.rxAbandon = false ∧
        (s.rxBuf = [] ∨ p.connStart = false ∧ p.connStop = false) ↔ s.rxReady = true ∧ s.rxDiscards p = false := by
      rw [← Bool.not_eq_true (s.rxDiscards p), State.rxDiscards_iff, PortIn.control_iff]
      cases s.conn <;> cases s.rxAbandon <;> cases p.connStart <;> cases p.connStop <;> simp
    simp only [hguard]
    cases hr : s.rxReady <;> cases hd : s.rxDiscards p <;> simp [rxTransfer, hx, hr, hd, rxCompleted, chunkEvents]

/-- Settles O51: HRESET alone, or the cycle's events in order, of which the tick is due only between chunks. -/
theorem everyCycleIsAScriptOfEvents : Obligations.EveryCycleIsAScriptOfEvents := by
  intro p s
  cases hrst : p.rst with
  | true =>
    exact ⟨[], hresetStep s, .inl rfl, by simp, by simp [runOps_eq_afterAll], (portCycle_same_hreset s hrst).1.symm⟩
  | false =>
    refine ⟨(tickSamples p.rtc (cycleChunk p s)).map .tick, _, ?_, fun htk => ⟨rfl, ?_⟩, runOps_eq_afterAll _ _, ?_⟩
    · rcases tickSamples_cases p.rtc (cycleChunk p s) with ⟨-, e⟩ | ⟨-, e⟩ <;> simp [e]
    · rcases tickSamples_cases p.rtc (cycleChunk p s) with ⟨-, e⟩ | ⟨hd, -⟩
      · simp [e] at htk
      · exact portCycle_rxBuf_of_tickDue hrst hd
    · have h := (portCycle_same_events s hrst).1.symm
      rw [chunkEvents_rxCompleted] at h
      exact h

/-- A byte lost with a reset touches no more than whether the rest of its chunk is discarded. -/
theorem rxLost_frame (x : Option (Byte × Bool)) (s : State) :
    (rxLost x s).rxBuf = s.rxBuf ∧ (rxLost x s).txq = s.txq ∧ (rxLost x s).tickPending = s.tickPending := by
  unfold rxLost
  split <;> simp

/-- Settles O58: HRESET clears what is kept, and a byte lost with it is kept neither. -/
theorem resetCycleIsHresetAlone : Obligations.ResetCycleIsHresetAlone := by
  intro p s hrst
  refine ⟨hresetStep s, rfl, (portCycle_same_hreset s hrst).1, ?_⟩
  rw [portCycle_of_rst s hrst]
  exact rxLost_frame _ _

end Sys2Proof.Machine
end

section
/-! SUPPORT. Chunks that are lost, chunks that are kept, and a full queue, over one cycle and over many
(20_memory.md R45, R46). -/

namespace Sys2Proof.Machine

/-! ### Bytes without a connection, and a chunk that a control event cuts off -/

/-- A cycle whose chunk is lost with a CONNECT, or that has no connection after its control events, is these
alone: a chunk is lost or ignored, and a pending tick is cancelled or not enabled. -/
theorem portCycle_same_portControl {p : PortIn} {s : State} (hrst : p.rst = false)
    (h : s.rxDiscards p = true ∧ p.connStart = true ∨ (portControl p s).conn = false) :
    SameEvents (portCycle p s) (portControl p s) := by
  have hconn : (cycleKeep p s).conn = (portControl p s).conn := (cycleKeep_same p s).conn
  have hchunk : cycleChunk p s = cycleKeep p s := by
    unfold cycleChunk
    rcases h with ⟨hd, -⟩ | hc
    · rw [rxCompleted_discards p _ s hd]
      rfl
    · exact portChunk_unconnected _ (hconn.trans hc)
  have hunseen : (cycleKeep p s).tickPending = false ∨ (cycleKeep p s).conn = false := by
    rcases h with ⟨-, hstart⟩ | hc
    · simp [PortIn.control, hstart]
    · exact .inr (hconn.trans hc)
  rw [portCycle_of_not_rst s hrst, hchunk]
  exact (portTick_unseen _ hunseen).trans' (cycleKeep_same p s)

/-- Settles O60: the bytes of such a cycle are lost, whichever of the three reasons makes them so. -/
theorem noByteOutlivesItsConnection : Obligations.NoByteOutlivesItsConnection := by
  intro p s _ hport hrst hreason
  obtain ⟨-, hidle, -⟩ := s.portInv_iff.1 hport
  have hlost : s.rxDiscards p = true ∧ p.connStart = true ∨ (portControl p s).conn = false := by
    rw [State.rxDiscards_iff, PortIn.control_iff]
    rcases hreason with hc | ⟨hstop, hstart⟩ | ⟨hstart, hbuf | hab⟩
    · cases hstart : p.connStart <;> simp [hc, hstart]
    · simp [hstop, hstart]
    · simp [hstart, hbuf]
    · simp [hstart, hab]
  have hbuf : p.control = true ∨ s.rxBuf = [] := by
    rw [PortIn.control_iff]
    rcases hreason with hc | ⟨hstop, -⟩ | ⟨hstart, -⟩
    · exact .inr (hidle hc).2
    · exact .inl (.inr hstop)
    · exact .inl (.inl hstart)
  refine ⟨portControl p s, ?_, (portCycle_same_portControl hrst hlost).1.symm, ?_⟩
  · rw [← controlEvents, runOps_eq_afterAll, afterAll_controlEvents]
  rw [(portCycle_rx s hrst).1, (portCycle_rx s hrst).2]
  rcases hx : rxTransfer p s with _ | ⟨d, _ | _⟩
  · obtain ⟨ebuf, eab⟩ := cycleKeep_rx_none hx
    rw [ebuf, eab]
    rcases hbuf with hbuf | hbuf <;> simp [hbuf]
  · have hlost' : s.rxDiscards p = true ∨ (cycleControl p s).conn = false := by
      rw [(cycleControl_same p s).conn]
      exact hlost.imp_left And.left
    obtain ⟨ebuf, eab⟩ := cycleKeep_rx_lost hx hlost'
    rw [ebuf, eab]
    rcases hbuf with hbuf | hbuf <;> simp [hbuf]
  · exact cycleKeep_rx_last hx

/-! ### A full queue -/

/-- With a full queue, no control event and no transfer on TX a cycle is its clock alone. -/
theorem portCycle_stalled {p : PortIn} {s : State} (hc : s.conn = true) (hfull : s.txq.length = s.cfg.txqDepth)
    (hrst : p.rst = false) (hctl : p.control = false) (htx : p.txReady = false) :
    s.rxReady = false ∧ portCycle p s = timerClock (cycleStart p s) := by
  have hready : s.rxReady = false := by simp [State.rxReady, hc, hfull]
  have hchunk : cycleChunk p s = timerClock (cycleStart p s) := by
    simp [cycleChunk, cycleKeep, cycleControl, cycleTransfers, rxTransfer, hready, htx, txTransfer_idle,
      portControl_none _ hctl, rxCompleted, portChunk]
  have hdue : (timerClock (cycleStart p s)).tickDue = false := by
    obtain ⟨-, -, hq, -⟩ := timerClock_frame (cycleStart p s)
    rw [State.tickDue, hq, (timerClock_same _).2]
    simp [cycleStart, hfull]
  rw [portCycle_of_not_rst s hrst, hchunk]
  exact ⟨hready, portTick_not_due _ hdue⟩

/-- Settles O56: the stalled cycle leaves all but the counter and the pending tick. -/
theorem fullQueueHoldsEventsBack : Obligations.FullQueueHoldsEventsBack := by
  intro p s hc hfull hrst hstart hstop htx
  obtain ⟨hready, e⟩ := portCycle_stalled hc hfull hrst (by simp [PortIn.control, hstart, hstop]) htx
  obtain ⟨hbuf, -, hq, -⟩ := timerClock_frame (cycleStart p s)
  rw [e]
  exact ⟨hready, ((timerClock_same _).trans' (cycleStart_same p s)).1, hbuf, hq,
    fun hpend => timerClock_tickPending hpend⟩

/-! ### A chunk that is being discarded -/

/-- The bytes still to be transferred of a chunk that is being discarded, or none when none is. -/
def RestOfChunk (abandon : Bool) (ys : List (Byte × Bool)) : Prop :=
  (abandon = true ∧ ∃ (xs : List Byte) (z : Byte), ys = xs.map (fun d => (d, false)) ++ [(z, true)]) ∨
  (abandon = false ∧ ys = [])

theorem restOfChunk_nil_iff (abandon : Bool) : RestOfChunk abandon [] ↔ abandon = false := by
  simp [RestOfChunk]

theorem restOfChunk_last {abandon : Bool} {d : Byte} {ys : List (Byte × Bool)}
    (h : RestOfChunk abandon ((d, true) :: ys)) : ys = [] := by
  rcases h with ⟨-, xs, z, e⟩ | ⟨-, e⟩
  · cases xs with
    | nil => simpa using (List.cons.inj e).2
    | cons x xs => simp at e
  · cases e

theorem restOfChunk_other {abandon : Bool} {d : Byte} {ys : List (Byte × Bool)}
    (h : RestOfChunk abandon ((d, false) :: ys)) : RestOfChunk true ys := by
  rcases h with ⟨-, xs, z, e⟩ | ⟨-, e⟩
  · cases xs with
    | nil => simp at e
    | cons x xs => exact .inl ⟨rfl, xs, z, (List.cons.inj e).2⟩
  · cases e

/-- A cycle without control events in which a byte is lost, or none is transferred, is at most a TICK, and keeps
no byte. -/
theorem portCycle_same_ticks {p : PortIn} {s : State} (hrst : p.rst = false) (hctl : p.control = false)
    (hbuf : s.rxBuf = []) (h : s.rxDiscards p = true ∨ rxTransfer p s = none) :
    SameEvents (portCycle p s) (afterAll ((tickSamples p.rtc (cycleChunk p s)).map .tick) s) ∧
    (portCycle p s).rxBuf = [] := by
  have hdone : rxCompleted p (rxTransfer p s) s = none := by
    rcases h with hd | hx
    · exact rxCompleted_discards p _ s hd
    · rw [hx]; rfl
  constructor
  · simpa [controlEvents_none hctl, hdone, chunkEvents] using portCycle_same_events s hrst
  · rw [(portCycle_rx s hrst).1]
    rcases hx : rxTransfer p s with _ | ⟨d, _ | _⟩
    · simp [cycleKeep_rx_none hx, hbuf]
    · have hd : s.rxDiscards p = true := by simpa [hx] using h
      simp [cycleKeep_rx_lost hx (.inl hd), hbuf]
    · exact (cycleKeep_rx_last hx).1

/-- A cycle without control events transfers at most the next byte of the rest of a chunk, and the discarding is over
exactly when that was the last. -/
theorem restOfChunk_portCycle {p : PortIn} {s : State} {ys : List (Byte × Bool)} (hrst : p.rst = false)
    (hctl : p.control = false) (h : RestOfChunk s.rxAbandon ((rxTransfer p s).toList ++ ys)) :
    RestOfChunk (portCycle p s).rxAbandon ys ∧ (s.rxDiscards p = true ∨ rxTransfer p s = none) := by
  rw [(portCycle_rx s hrst).2]
  rcases hx : rxTransfer p s with _ | ⟨d, last⟩
  · simpa [cycleKeep_rx_none hx, hctl, hx] using h
  · simp only [hx, Option.toList_some, List.singleton_append] at h
    have hd : s.rxDiscards p = true := by
      rcases h with ⟨hab, -⟩ | ⟨-, e⟩
      · exact (s.rxDiscards_iff p).2 (.inl hab)
      · cases e
    refine ⟨?_, .inl hd⟩
    cases last with
    | false =>
      rw [(cycleKeep_rx_lost hx (.inl hd)).2]
      exact restOfChunk_other h
    | true =>
      rw [(cycleKeep_rx_last hx).2, restOfChunk_last h]
      exact (restOfChunk_nil_iff false).2 rfl

theorem tickSamples_sublist (x : TimeSample) (s : State) : (tickSamples x s).Sublist [x] := by
  rcases tickSamples_cases x s with ⟨-, e⟩ | ⟨-, e⟩ <;> simp [e]

/-- While the rest of a chunk is discarded the cycles are TICKs only, cycle by cycle. -/
theorem runCycles_restOfChunk {ps : List PortIn} {s : State} (hbuf : s.rxBuf = [])
    (hctl : ∀ p ∈ ps, p.rst = false ∧ p.control = false) (h : RestOfChunk s.rxAbandon (rxTransfers ps s)) :
    ∃ ts : List TimeSample, ts.Sublist (ps.map PortIn.rtc) ∧
      SameEvents (afterAll (ts.map .tick) s) (runCycles ps s) ∧
      (runCycles ps s).rxAbandon = false ∧ (runCycles ps s).rxBuf = [] := by
  induction ps generalizing s with
  | nil => exact ⟨[], .slnil, .rfl' s, (restOfChunk_nil_iff _).1 h, hbuf⟩
  | cons p ps ih =>
    obtain ⟨⟨hrst, hctlp⟩, hctls⟩ := List.forall_mem_cons.1 hctl
    obtain ⟨hrest, hnone⟩ := restOfChunk_portCycle hrst hctlp h
    obtain ⟨hsame, hbuf'⟩ := portCycle_same_ticks hrst hctlp hbuf hnone
    obtain ⟨ts, hsub, hevents, hend⟩ := ih hbuf' hctls hrest
    refine ⟨tickSamples p.rtc (cycleChunk p s) ++ ts, (tickSamples_sublist _ _).append hsub, ?_, hend⟩
    rw [List.map_append, afterAll_append]
    exact (afterAll_ticks_same ts hsame.symm').trans' hevents

theorem PortIn.control_eq_false {p : PortIn} (h : p.rst = false ∧ p.connStart = false ∧ p.connStop = false) :
    p.rst = false ∧ p.control = false := by
  simp [PortIn.control, h]

/-- Settles O53: by induction over the cycles. -/
theorem abandonedChunkProducesNoEvent : Obligations.AbandonedChunkProducesNoEvent := by
  intro ps xs z s hbuf hab hctl htransfers
  obtain ⟨ts, hsub, hevents, hend⟩ := runCycles_restOfChunk hbuf (fun p hp => PortIn.control_eq_false (hctl p hp))
    (.inl ⟨hab, xs, z, htransfers⟩)
  exact ⟨ts, _, hsub, runOps_eq_afterAll _ _, hevents.1, hend⟩

/-! ### A chunk transferred in consecutive cycles -/

/-- Without a connection cycles without control events do nothing at the event level and keep no byte. -/
theorem runCycles_unconnected {ps : List PortIn} {s : State} (hc : s.conn = false) (hbuf : s.rxBuf = [])
    (hctl : ∀ p ∈ ps, p.rst = false ∧ p.control = false) :
    SameEvents (runCycles ps s) s ∧ (runCycles ps s).rxBuf = [] := by
  induction ps generalizing s with
  | nil => exact ⟨.rfl' s, hbuf⟩
  | cons p ps ih =>
    obtain ⟨⟨hrst, hctlp⟩, hctls⟩ := List.forall_mem_cons.1 hctl
    have hsame : SameEvents (portCycle p s) s := by
      have h := portCycle_same_portControl (p := p) (s := s) hrst
      rw [portControl_none s hctlp] at h
      exact h (.inr hc)
    have hbuf' := (portCycle_same_ticks hrst hctlp hbuf (.inl ((s.rxDiscards_iff p).2 (.inr (.inl hc))))).2
    obtain ⟨hevents, hend⟩ := ih (hsame.conn.trans hc) hbuf' hctls
    exact ⟨hevents.trans' hsame, hend⟩

/-- A byte that ends no chunk is kept, and nothing else happens but the transfer on TX and the clock: a tick waits for
the chunk (20_memory.md R42). -/
theorem portCycle_keeps_byte {p : PortIn} {s : State} {d : Byte} (hrst : p.rst = false) (hctl : p.control = false)
    (hx : rxTransfer p s = some (d, false)) (hc : s.conn = true) (hab : s.rxAbandon = false) :
    SameEvents (portCycle p s) s ∧ (portCycle p s).rxBuf = s.rxBuf ++ [d] ∧ (portCycle p s).rxAbandon = false ∧
    (portCycle p s).txq.length ≤ s.txq.length := by
  have hd : s.rxDiscards p = false := by simp [State.rxDiscards, hab, hc, hctl]
  obtain ⟨ebuf, eab⟩ := cycleKeep_rx_kept hx hctl hd hc
  have hchunk : cycleChunk p s = cycleKeep p s := by
    simp [cycleChunk, hx, rxCompleted, portChunk]
  have hcycle : portCycle p s = cycleKeep p s := by
    rw [portCycle_of_not_rst s hrst, hchunk]
    exact portTick_not_due _ (by simp [State.tickDue, ebuf])
  have hsame := cycleKeep_same p s
  rw [portControl_none s hctl] at hsame
  rw [hcycle]
  exact ⟨hsame, ebuf, eab.trans hab, cycleKeep_length_le p s⟩

/-- Within a connection and with room in the queue the bytes of a chunk, with those kept already, become one CHUNK. -/
theorem runCycles_chunk {ps : List PortIn} {xs : List Byte} {z : Byte} {s : State} (hc : s.conn = true)
    (hab : s.rxAbandon = false) (hroom : s.txq.length < s.cfg.txqDepth)
    (hctl : ∀ p ∈ ps, p.rst = false ∧ p.control = false)
    (hrx : ps.map PortIn.rx = xs.map (fun d => some (d, false)) ++ [some (z, true)]) :
    ∃ ts : List TimeSample, ts.length ≤ 1 ∧
      SameEvents (runCycles ps s) (afterAll (.chunk (s.rxBuf ++ xs ++ [z]) :: ts.map .tick) s) ∧
      (runCycles ps s).rxBuf = [] := by
  induction xs generalizing ps s with
  | nil =>
    obtain ⟨p, rfl, hpz⟩ : ∃ p, ps = [p] ∧ p.rx = some (z, true) := by simpa [List.map_eq_singleton_iff] using hrx
    obtain ⟨hrst, hctlp⟩ := hctl p (List.mem_singleton_self p)
    have hx : rxTransfer p s = some (z, true) := by
      rw [rxTransfer, (s.rxReady_iff).2 (.inr hroom), if_pos rfl, hpz]
    have hd : s.rxDiscards p = false := by simp [State.rxDiscards, hab, hc, hctlp]
    have hdone : rxCompleted p (rxTransfer p s) s = some (s.rxBuf ++ [z]) :=
      (rxCompleted_iff _ _ _ _).2 ⟨z, hx, hd, rfl⟩
    refine ⟨tickSamples p.rtc (cycleChunk p s), (tickSamples_sublist _ _).length_le, ?_, ?_⟩
    · simpa [runCycles, controlEvents_none hctlp, hdone, chunkEvents] using portCycle_same_events s hrst
    · exact (portCycle_rx s hrst).1.trans (cycleKeep_rx_last hx).1
  | cons d xs ih =>
    cases ps with
    | nil => simp at hrx
    | cons p ps =>
      obtain ⟨hpd, hrx'⟩ := List.cons.inj hrx
      obtain ⟨⟨hrst, hctlp⟩, hctls⟩ := List.forall_mem_cons.1 hctl
      have hx : rxTransfer p s = some (d, false) := by
        rw [rxTransfer, (s.rxReady_iff).2 (.inr hroom), if_pos rfl, hpd]
      obtain ⟨hsame, hbuf, hab', hlen⟩ := portCycle_keeps_byte hrst hctlp hx hc hab
      have hroom' : (portCycle p s).txq.length < (portCycle p s).cfg.txqDepth := by
        rw [hsame.2]
        exact Nat.lt_of_le_of_lt hlen hroom
      obtain ⟨ts, hts, hevents, hend⟩ := ih (hsame.conn.trans hc) hab' hroom' hctls hrx'
      refine ⟨ts, hts, hevents.trans' ?_, hend⟩
      rw [hbuf, List.append_assoc s.rxBuf [d] xs, List.singleton_append]
      exact afterAll_ticks_same ts (chunkStep_same _ hsame)

/-- Settles O52: without a connection nothing happens, within one by induction over the bytes. -/
theorem chunkOverThePortIsOneEvent : Obligations.ChunkOverThePortIsOneEvent := by
  intro ps xs z s hbuf hab hroom hctl hrx
  have hctl' : ∀ p ∈ ps, p.rst = false ∧ p.control = false := fun p hp => PortIn.control_eq_false (hctl p hp)
  cases hc : s.conn with
  | false =>
    obtain ⟨hsame, hend⟩ := runCycles_unconnected hc hbuf hctl'
    refine ⟨[], _, .inl rfl, runOps_eq_afterAll _ _, ?_, hend⟩
    have hignored : afterAll [.chunk (xs ++ [z])] s = s := portChunk_unconnected (some (xs ++ [z])) hc
    rw [hignored, hsame.1]
  | true =>
    obtain ⟨ts, hts, hsame, hend⟩ := runCycles_chunk hc hab (by simpa [hc] using hroom) hctl' hrx
    rw [hbuf, List.nil_append] at hsame
    refine ⟨ts.map .tick, _, ?_, runOps_eq_afterAll _ _, hsame.1.symm, hend⟩
    match ts, hts with
    | [], _ => exact .inl rfl
    | [x], _ => exact .inr ⟨x, rfl⟩

end Sys2Proof.Machine
end

section
/-! SUPPORT. What a clock cycle emits, and what of it stands on TX and on the payload port (20_memory.md R44, R46,
R47). -/

namespace Sys2Proof.Machine

/-! ### The emissions of a cycle -/

@[simp] theorem framesOf_nil : framesOf [] = [] := rfl

@[simp] theorem framesOf_append (es es' : List Emission) : framesOf (es ++ es') = framesOf es ++ framesOf es' :=
  List.filterMap_append

/-- `t` is `s` with the emissions `es` made: on the trace, as pulses, and the frames at the end of the transmit
queue. -/
def Sends (s : State) (es : List Emission) (t : State) : Prop :=
  Emits s es t ∧ t.txq = s.txq ++ framesOf es ∧ t.txPos = s.txPos

theorem Sends.nothing {s t : State} (htrace : t.trace = s.trace) (hack : t.evAck = s.evAck)
    (hpay : t.evPayload = s.evPayload) (hq : t.txq = s.txq) (hpos : t.txPos = s.txPos) : Sends s [] t :=
  ⟨.nothing htrace hack hpay, by simp [hq], hpos⟩

theorem Sends.trans {s t u : State} {es es' : List Emission} (h : Sends s es t) (h' : Sends t es' u) :
    Sends s (es ++ es') u := by
  obtain ⟨hemit, hq, hpos⟩ := h
  obtain ⟨hemit', hq', hpos'⟩ := h'
  exact ⟨hemit.trans hemit', by simp [hq', hq], hpos'.trans hpos⟩

/-- What a CHUNK step emits stands at the end of the queue (20_memory.md R46). -/
theorem chunkStep_sends {b : List Byte} {s : State} {es : List Emission} (h : Emits s es (chunkStep b s)) :
    Sends s es (chunkStep b s) := by
  obtain ⟨-, -, hpos, -, -, -, -, hqueue⟩ := chunkStep_port b s
  refine ⟨h, ?_, hpos⟩
  rw [h.1, framesOf_append] at hqueue
  rcases hqueue with ⟨hq, hf⟩ | ⟨-, f, -, hq, hf⟩
  · rw [hq, List.append_right_eq_self.1 hf, List.append_nil]
  · rw [hq, List.append_cancel_left hf]

/-- The payloads among emissions are what the payload port of the state reads (20_memory.md R47). -/
def PayloadsReadable (es : List Emission) (t : State) : Prop :=
  ∀ P, .ev (.payload P) ∈ es → t.pstate = .complete ∧ interior t.acc = P

theorem portChunk_sends (b : Option (List Byte)) (s : State) :
    ∃ es, Sends s es (portChunk b s) ∧ PayloadsReadable es (portChunk b s) := by
  cases b with
  | none => exact ⟨[], .nothing rfl rfl rfl rfl rfl, by simp [PayloadsReadable]⟩
  | some b =>
    obtain ⟨es, -, hemit, hread⟩ := chunkStep_emits b s
    exact ⟨es, chunkStep_sends hemit, hread⟩

/-- A tick emits frames only. -/
theorem portTick_sends (x : TimeSample) (s : State) :
    ∃ fs : List Frame, Sends s (fs.map .tx) (portTick x s) := by
  rcases portTick_cases x s with ⟨-, e⟩ | ⟨-, -, e⟩ | ⟨-, -, -, -, e⟩ | ⟨-, -, -, -, e⟩ <;> rw [e]
  · exact ⟨[], .nothing rfl rfl rfl rfl rfl⟩
  · exact ⟨[], .nothing rfl rfl rfl rfl rfl⟩
  · exact ⟨[timesyncFrame x], emitTx_emits _ _, rfl, rfl⟩
  · exact ⟨[], .nothing rfl rfl rfl rfl rfl⟩

/-- What a cycle without reset emits, after its transfers and control events. -/
theorem portCycle_sends {p : PortIn} (s : State) (h : p.rst = false) :
    ∃ es, Sends (cycleKeep p s) es (portCycle p s) ∧ PayloadsReadable es (portCycle p s) := by
  rw [portCycle_of_not_rst s h]
  obtain ⟨es, hsend, hread⟩ :
      ∃ es, Sends (cycleKeep p s) es (cycleChunk p s) ∧ PayloadsReadable es (cycleChunk p s) := portChunk_sends _ _
  obtain ⟨fs, hsend'⟩ := portTick_sends p.rtc (cycleChunk p s)
  refine ⟨es ++ fs.map .tx, hsend.trans hsend', fun P hP => ?_⟩
  obtain ⟨-, -, -, hpstate, hacc⟩ := portTick_frame p.rtc (cycleChunk p s)
  rw [hpstate, hacc]
  exact hread P (by simpa using hP)

/-! ### The payload port -/

/-- In Complete the payload port reads the interior of the frame buffer, byte by byte (20_memory.md R47). -/
theorem State.payloadPort_of_complete {s : State} (h : s.pstate = .complete) :
    s.plLen = (interior s.acc).length ∧ ∀ i, s.readPayload i = (interior s.acc).getD i 0 := by
  have hlen : s.plLen = s.acc.length - 2 := by simp [State.plLen, h, State.accLen]
  refine ⟨by simp [hlen, interior]; omega, fun i => ?_⟩
  rw [State.readPayload, hlen, interior_eq, List.getD_eq_getElem?_getD, List.getElem?_take]
  split
  · rw [List.getElem?_drop, Nat.add_comm 1 i, Memory.read]
  · rfl

/-- Settles O57: the pulses of the cycle before are over when the events come, so those that show are theirs. -/
theorem pulsesAndPayloadPortShowTheNotifications : Obligations.PulsesAndPayloadPortShowTheNotifications := by
  intro p s hrst
  obtain ⟨es, ⟨⟨htrace, hack, hpay⟩, -⟩, hread⟩ := portCycle_sends s hrst
  obtain ⟨-, hack0, hpay0, htrace0⟩ := cycleKeep_frame p s
  rw [htrace0] at htrace
  simp only [hack0, Bool.false_eq_true, false_or] at hack
  simp only [hpay0, Bool.false_eq_true, false_or] at hpay
  refine ⟨es, htrace, fun _ => hack, fun _ => hpay, fun q P hP => ?_⟩
  obtain ⟨hcomplete, rfl⟩ := hread P hP
  obtain ⟨hlen, hbyte⟩ := State.payloadPort_of_complete hcomplete
  exact ⟨hlen, hbyte q.plAddr⟩

/-! ### The TX stream -/

/-- The bytes still to be sent of a queue: the rest of its first frame, then the frames behind it. -/
theorem State.txPending_cons {s : State} {f : Frame} {q : List Frame} (hq : s.txq = f :: q)
    (hpos : s.txPos < f.length) :
    s.txPending = (f[s.txPos], decide (s.txPos + 1 = f.length)) ::
      ((frameOnTx f).drop (s.txPos + 1) ++ q.flatMap frameOnTx) := by
  rw [State.txPending, hq, List.flatMap_cons, List.drop_append_of_le_length (by simpa using hpos.le),
    frameOnTx_drop f _ hpos, List.cons_append]

theorem State.txPending_nil {s : State} (hq : s.txq = []) : s.txPending = [] := by
  simp [State.txPending, hq]

/-- TX shows the first byte still to be sent (20_memory.md R46). -/
theorem State.txByte_eq_head {s : State} (h : QueueOk s.cfg.txqDepth s.txq s.txPos) :
    s.txByte = s.txPending.head? := by
  obtain ⟨-, hhead, -⟩ := h
  cases hq : s.txq with
  | nil => simp [State.txByte, hq, State.txPending_nil hq]
  | cons f q =>
    have hpos : s.txPos < f.length := hhead f (by simp [hq])
    simp [State.txByte, hq, State.txPending_cons hq hpos, List.getElem?_eq_getElem hpos]

/-- A transfer on TX takes the first byte still to be sent. -/
theorem txTransfer_txPending (r : Bool) {s : State} (h : QueueOk s.cfg.txqDepth s.txq s.txPos) :
    (txTransfer r s).txPending = if r then s.txPending.drop 1 else s.txPending := by
  obtain ⟨-, hhead, -⟩ := h
  cases r with
  | false => simp [txTransfer_idle]
  | true =>
    cases hq : s.txq with
    | nil => simp [txTransfer, hq, State.txPending_nil hq]
    | cons f q =>
      have hpos : s.txPos < f.length := hhead f (by simp [hq])
      rw [State.txPending_cons hq hpos, if_pos rfl, List.drop_one, List.tail_cons]
      by_cases hlast : s.txPos + 1 < f.length
      · have hle : s.txPos + 1 ≤ (frameOnTx f).length := by simpa using hlast.le
        simp [txTransfer, hq, hlast, State.txPending, List.drop_append_of_le_length hle]
      · have hdone : (frameOnTx f).drop (s.txPos + 1) = [] := List.drop_eq_nil_of_le (by simpa using hlast)
        simp [txTransfer, hq, hlast, State.txPending, hdone]

/-- The byte position lies within the bytes of the queue. -/
theorem QueueOk.pos_le {depth pos : Nat} {q : List Frame} (h : QueueOk depth q pos) :
    pos ≤ (q.flatMap frameOnTx).length := by
  obtain ⟨-, hhead, hnil, -⟩ := h
  cases q with
  | nil => simp [hnil rfl]
  | cons f q =>
    have hpos : pos < f.length := hhead f rfl
    rw [List.flatMap_cons, List.length_append, frameOnTx_length]
    exact Nat.le_add_right_of_le hpos.le

/-- Frames that are emitted join the bytes still to be sent at their end. -/
theorem Sends.txPending {s t : State} {es : List Emission} {depth : Nat} (h : Sends s es t)
    (hq : QueueOk depth s.txq s.txPos) : t.txPending = s.txPending ++ (framesOf es).flatMap frameOnTx := by
  obtain ⟨-, htxq, hpos⟩ := h
  rw [State.txPending, htxq, hpos, List.flatMap_append, List.drop_append_of_le_length hq.pos_le, State.txPending]

/-- Settles O55: the transfer takes the first byte, the cycle's frames join at the end. -/
theorem txStreamIsTheFramesInOrder : Obligations.TxStreamIsTheFramesInOrder := by
  intro p s hport hrst hstop
  obtain ⟨hq, -⟩ := s.portInv_iff.1 hport
  obtain ⟨es, hsend, -⟩ := portCycle_sends s hrst
  obtain ⟨etxq, epos⟩ := cycleKeep_queue s hstop
  have hq' : QueueOk s.cfg.txqDepth (cycleKeep p s).txq (cycleKeep p s).txPos := by
    rw [etxq, epos]
    exact txTransfer_queueOk p.txReady (s := cycleStart p s) hq
  have hkeep : (cycleKeep p s).txPending = if p.txReady then s.txPending.drop 1 else s.txPending := by
    rw [State.txPending, etxq, epos]
    exact txTransfer_txPending p.txReady (s := cycleStart p s) hq
  refine ⟨State.txByte_eq_head hq, es, ?_, ?_⟩
  · obtain ⟨-, -, -, htrace⟩ := cycleKeep_frame p s
    rw [hsend.1.1, htrace]
  · rw [hsend.txPending hq', hkeep]

end Sys2Proof.Machine
end

section
/-! SUPPORT. The opcode table's numbers (30_encoding.md R65), byte by byte: which row a number matches first, and the
operation that is read from it. -/

namespace Sys2Proof

/-! ### Numbers made of bytes -/

/-- The byte appended to a word is the lowest byte of its number. -/
theorem toNat_append_byte {k : Nat} (v : BitVec k) (b : Byte) : (v ++ b).toNat = v.toNat * 256 + b.toNat := by
  rw [BitVec.toNat_append, ← Nat.shiftLeft_add_eq_or_of_lt b.isLt, Nat.shiftLeft_eq]

/-- A mask acts on each byte of a number by itself. -/
theorem toNat_append_byte_and {k : Nat} (v : BitVec k) (b : Byte) (m : Nat) :
    (v ++ b).toNat &&& m = (v.toNat &&& m / 256) * 256 + (b.toNat &&& m % 256) := by
  have hb : b.toNat < 2 ^ 8 := b.isLt
  have hdiv : ((v ++ b).toNat &&& m) / 2 ^ 8 = v.toNat &&& m / 2 ^ 8 := by
    rw [Nat.and_div_two_pow]
    congr 1
    rw [toNat_append_byte]
    omega
  have hmod : ((v ++ b).toNat &&& m) % 2 ^ 8 = b.toNat &&& m % 2 ^ 8 := by
    rw [Nat.and_mod_two_pow]
    congr 1
    rw [toNat_append_byte]
    omega
  calc (v ++ b).toNat &&& m
      = ((v ++ b).toNat &&& m) / 2 ^ 8 * 2 ^ 8 + ((v ++ b).toNat &&& m) % 2 ^ 8 := (Nat.div_add_mod' ..).symm
    _ = (v.toNat &&& m / 2 ^ 8) * 2 ^ 8 + (b.toNat &&& m % 2 ^ 8) := by rw [hdiv, hmod]

theorem toNat_and_255 (b : Byte) : b.toNat &&& 255 = b.toNat :=
  Nat.and_two_pow_sub_one_of_lt_two_pow (n := 8) b.isLt

/-- `bytesBE` by the lowest byte instead of the highest. -/
theorem bytesBE_succ (n w : Nat) : bytesBE (n + 1) w = bytesBE n (w >>> 8) ++ [BitVec.ofNat 8 w] := by
  induction n with
  | zero => simp [bytesBE]
  | succ n ih => rw [bytesBE, ih, bytesBE, List.cons_append, ← Nat.shiftRight_add, Nat.mul_succ, Nat.add_comm]

theorem bytesBE_append_byte {k : Nat} (n : Nat) (v : BitVec k) (b : Byte) :
    bytesBE (n + 1) (v ++ b).toNat = bytesBE n v.toNat ++ [b] := by
  have hb : b.toNat < 2 ^ 8 := b.isLt
  have hhigh : (v ++ b).toNat >>> 8 = v.toNat := by
    rw [Nat.shiftRight_eq_div_pow, toNat_append_byte]
    omega
  have hlow : BitVec.ofNat 8 (v ++ b).toNat = b := by
    apply BitVec.eq_of_toNat_eq
    rw [BitVec.toNat_ofNat, toNat_append_byte]
    omega
  rw [bytesBE_succ, hhigh, hlow]

theorem bytesBE_byte (b : Byte) : bytesBE 1 b.toNat = [b] := by simp [bytesBE]

/-! ### The first row that a number matches -/

theorem TableRow.matches_iff (r : TableRow) (nbits w : Nat) :
    r.matches nbits w = true ↔ (nbits = r.nbits ∨ nbits = r.byteBits) ∧ w < 2 ^ r.nbits ∧ w &&& r.mask = r.value := by
  simp [TableRow.matches, and_assoc]

/-- `decodeTableWord` reads a number by the first row that it matches (log 3). -/
theorem decodeTableWord_of_first {nbits w k : Nat} {r : TableRow} (hk : tableRows[k]? = some r)
    (hbefore : ∀ q ∈ tableRows.take k, ¬ q.matches nbits w = true) (hr : r.matches nbits w = true) :
    decodeTableWord nbits w = (decode (r.descriptor w)).toOption := by
  have hsplit : tableRows = tableRows.take k ++ r :: tableRows.drop (k + 1) := by
    obtain ⟨hlt, rfl⟩ := List.getElem?_eq_some_iff.1 hk
    rw [← List.drop_eq_getElem_cons, List.take_append_drop]
  have hfind : tableRows.find? (·.matches nbits w) = some r :=
    List.find?_eq_some_iff_append.2 ⟨hr, _, _, hsplit, by simpa using hbefore⟩
  have hd : tableDescriptor nbits w = some (r.descriptor w) := by
    rw [tableDescriptor, tableDescriptors, List.head?_map, List.head?_filter, hfind, Option.map_some]
  rw [decodeTableWord, hd]

/-! ### Format F10 -/

/-- The row of TX.TIMESYNC. -/
def timesyncRow : TableRow := ⟨80, 0xFFFFFF000000000000FF, 0x5000070000000000005F, 5, true, 1⟩

/-- Settles O5: of the rows only TX.TIMESYNC has 80 bits, and its mask covers the four fixed bytes alone. -/
theorem timesyncFieldsAreReadFromTheirBytes : Obligations.TimesyncFieldsAreReadFromTheirBytes := by
  intro yy mo dd hh mi ss
  rw [decodeTableWord_of_first (k := 5) (r := timesyncRow) rfl]
  · simp only [timesyncRow, TableRow.descriptor, bytesBE_append_byte, bytesBE_byte]
    rfl
  · simp [tableRows, TableRow.matches_iff, TableRow.byteBits]
  · refine (TableRow.matches_iff ..).2 ⟨.inl rfl, BitVec.isLt _, ?_⟩
    simp [timesyncRow, toNat_append_byte_and, -BitVec.toNat_append]

/-! ### Format F3 -/

/-- The row of RX.CHKSUM. -/
def chksumRow : TableRow := ⟨24, 0xFF00FF, 0x40004F, 12, true, 0⟩

/-- The number of a checksum frame. -/
abbrev f3Word (c : Byte) : BitVec 24 := 0x40#8 ++ c ++ 0x4F#8

theorem chksumRow_matches (c : Byte) : chksumRow.matches 24 (f3Word c).toNat = true := by
  refine (TableRow.matches_iff ..).2 ⟨.inl rfl, BitVec.isLt _, ?_⟩
  simp [chksumRow, toNat_append_byte_and, -BitVec.toNat_append]

theorem decode_chksumRow (c : Byte) : decode (chksumRow.descriptor (f3Word c).toNat) = .ok (.rxChksum c) := by
  have hd : chksumRow.descriptor (f3Word c).toNat = encode (.rxChksum c) := by
    simp only [chksumRow, TableRow.descriptor, bytesBE_append_byte, bytesBE_byte]
    rfl
  rw [hd]
  exact Laws.RoundTrip.rxChksum c rfl

/-- Settles O4: before RX.CHKSUM stand 24-bit rows for the three requests only. -/
theorem checksumFieldIsReadFromItsBits : Obligations.ChecksumFieldIsReadFromItsBits := by
  intro c
  constructor
  · exact (mem_tableReadings_iff ..).2
      ⟨chksumRow, by decide, chksumRow_matches c, by rw [decode_chksumRow, Except.toOption]⟩
  · intro h1 h2 h4
    rw [decodeTableWord_of_first (k := 12) (r := chksumRow) rfl ?_ (chksumRow_matches c), decode_chksumRow,
      Except.toOption]
    simp [tableRows, TableRow.matches_iff, TableRow.byteBits, toNat_append_byte_and, toNat_and_255,
      -BitVec.toNat_append]
    bv_omega

/-! ### First bytes -/

/-- The row of RX.DATA_CONT. -/
def dataContRow : TableRow := ⟨8, 0x00, 0x00, 11, true, 1⟩

/-- The mask of RX.DATA_CONT covers no bit (30_encoding.md R65). -/
theorem dataContRow_matches (b : Byte) : dataContRow.matches 8 b.toNat = true :=
  (TableRow.matches_iff ..).2 ⟨.inl rfl, b.isLt, Nat.and_zero _⟩

theorem decode_dataContRow {b : Byte} (hb : b ≠ sofData) :
    decode (dataContRow.descriptor b.toNat) = .ok (.rxDataCont b []) := by
  have hd : dataContRow.descriptor b.toNat = encode (.rxDataCont b []) := by
    simp [dataContRow, TableRow.descriptor, bytesBE_byte, encode, Instr.code, Instr.operandBytes, encodeSeq]
  rw [hd]
  exact Laws.RoundTrip.rxDataCont b [] (by simpa [Instr.operandsOk] using hb)

theorem rxDataCont_mem_tableReadings_iff (b : Byte) :
    .rxDataCont b [] ∈ tableReadings 8 b.toNat ↔ b ≠ sofData := by
  constructor
  · rintro h rfl
    revert h
    decide
  · intro hb
    exact (mem_tableReadings_iff ..).2
      ⟨dataContRow, by decide, dataContRow_matches b, by rw [decode_dataContRow hb, Except.toOption]⟩

/-- The rows before RX.DATA_CONT with numbers of 8 bits are the five events' and RX.DATA_START's. -/
theorem decodeTableWord_first_byte {b : Byte} (h5 : 5 ≤ b.toNat) (hb : b ≠ sofData) :
    decodeTableWord 8 b.toNat = some (.rxDataCont b []) := by
  have hlow : b.toNat < 8 → b.toNat &&& 7 = b.toNat := Nat.and_two_pow_sub_one_of_lt_two_pow (n := 3)
  have hstart : b.toNat ≠ 0x40 := fun h => hb (BitVec.eq_of_toNat_eq h)
  rw [decodeTableWord_of_first (k := 11) (r := dataContRow) rfl ?_ (dataContRow_matches b), decode_dataContRow hb,
    Except.toOption]
  simp [tableRows, TableRow.matches_iff, TableRow.byteBits, toNat_and_255]
  omega

/-- Settles O3: the fixed numbers by evaluation, RX.DATA_CONT for every first byte. -/
theorem tableNumbersDecodeToTheirRows : Obligations.TableNumbersDecodeToTheirRows := by
  refine ⟨?events, by decide, by decide, by decide, rxDataCont_mem_tableReadings_iff,
    fun _ => decodeTableWord_first_byte, by decide, by decide, by decide, by decide, by decide, by decide, by decide,
    by decide, by decide⟩
  case events => rintro n (rfl | rfl) <;> decide

end Sys2Proof
end

section
/-! SUPPORT. What the operations are: each is read back from its descriptor, completes, and is a CHUNK where it delivers
one. -/

namespace Sys2Proof.Machine

/-- Settles O1, operation by operation. -/
theorem decodeInvertsEncode : Obligations.DecodeInvertsEncode := by
  intro i
  cases i with
  | hreset => exact Laws.RoundTrip.hreset
  | connect => exact Laws.RoundTrip.connect
  | disconnect => exact Laws.RoundTrip.disconnect
  | tick t => exact Laws.RoundTrip.tick t
  | chunk b => exact Laws.RoundTrip.chunk b
  | txTimesync t => exact Laws.RoundTrip.txTimesync t
  | txDatareq => exact Laws.RoundTrip.txDatareq
  | txChkreq => exact Laws.RoundTrip.txChkreq
  | txResend => exact Laws.RoundTrip.txResend
  | rxAck body => exact Laws.RoundTrip.rxAck body
  | rxDataStart rest => exact Laws.RoundTrip.rxDataStart rest
  | rxDataCont first rest => exact Laws.RoundTrip.rxDataCont first rest
  | rxChksum c => exact Laws.RoundTrip.rxChksum c
  | rxUnrec b => exact Laws.RoundTrip.rxUnrec b
  | rxEmpty => exact Laws.RoundTrip.rxEmpty
  | accReset => exact Laws.RoundTrip.accReset
  | accAppend b => exact Laws.RoundTrip.accAppend b
  | accIsterm => exact Laws.RoundTrip.accIsterm
  | accPayload => exact Laws.RoundTrip.accPayload
  | accInterior => exact Laws.RoundTrip.accInterior
  | accFeed b => exact Laws.RoundTrip.accFeed b
  | ckCompute f => exact Laws.RoundTrip.ckCompute f
  | ckValidate f c => exact Laws.RoundTrip.ckValidate f c
  | tmrStart => exact Laws.RoundTrip.tmrStart
  | tmrStop => exact Laws.RoundTrip.tmrStop
  | rdpl n => exact Laws.RoundTrip.rdpl n
  | ack => exact Laws.RoundTrip.ack
  | data p => exact Laws.RoundTrip.data p
  | cksum c => exact Laws.RoundTrip.cksum c

/-- Settles O8: the next state is `after`. -/
theorem everyOperationCompletes : Obligations.EveryOperationCompletes :=
  fun i s => ⟨after i s, exec_eq_after i s⟩

/-- An operation that delivers a chunk is CHUNK of its bytes. -/
theorem exec_eq_exec_chunk {i : Instr} {b : List Byte} (h : i.chunkBytes = some b) (s : State) :
    exec i s = exec (.chunk b) s := by
  rw [exec_of_chunkBytes h, exec_of_chunkBytes (i := .chunk b) rfl]

/-- Settles O27: each expansion is the chunk that the pseudo-operation delivers. -/
theorem pseudoOperationsAreTheirExpansions : Obligations.PseudoOperationsAreTheirExpansions :=
  fun s => ⟨exec_eq_exec_chunk rfl s, fun _ => exec_eq_exec_chunk rfl s, fun _ => exec_eq_exec_chunk rfl s⟩

/-- Settles O28: each shape is the chunk that the class delivers. -/
theorem chunkClassesDeliverTheirBytes : Obligations.ChunkClassesDeliverTheirBytes :=
  fun s => ⟨fun _ => exec_eq_exec_chunk rfl s, fun _ => exec_eq_exec_chunk rfl s, fun _ _ => exec_eq_exec_chunk rfl s,
    fun _ => exec_eq_exec_chunk rfl s, fun _ => exec_eq_exec_chunk rfl s, exec_eq_exec_chunk rfl s⟩

end Sys2Proof.Machine
end

section
/-! SUPPORT. The decode table of 30_encoding.md R59 against the dispatch of 43_protocol_engine.md R100. -/

namespace Sys2Proof.Machine

/-- Before the acknowledgment the table knows the ack only (10_state.md R18 item 2). -/
theorem classify_of_not_ack {b : List Byte} {s : State} (h : s.ArchInv) (hb : b ≠ []) (ha : s.ack = false) :
    classify s.cfg s.pstate b = if isAck b then .ack else .unrec := by
  simp [classify, hb, h.pstate_of_not_ack ha]

/-- The states and chunks for which the dispatch has no rule are in the table's last row. -/
theorem classify_of_dropped {b : List Byte} {s : State} (h : s.ArchInv) (hb : b ≠ []) (ha : s.ack = true)
    (hdrop : s.pstate = .awaitingAck ∨ (s.pstate = .awaitingChecksum ∧ isCk b = false) ∨ s.pstate = .complete ∨
      (s.pstate = .resendRequested ∧ (s.cfg.resendReentry && firstIs b sofData) = false)) :
    classify s.cfg s.pstate b = .unrec := by
  obtain ⟨-, hack, -⟩ := h
  rcases hdrop with hp | ⟨hp, hk⟩ | hp | ⟨hp, hf⟩
  · exact absurd hp (hack.1 ha)
  · simp [classify, hb, hp, hk]
  · simp [classify, hb, hp]
  · simp only [classify, hp, hf]
    simp [hb]

/-- Settles O29, by the cases of the dispatch: in each the table names the row of that case. -/
theorem dispatchFollowsTheDecodeTable : Obligations.DispatchFollowsTheDecodeTable := by
  intro b s hinv hc
  rw [exec_of_chunkBytes (i := .chunk b) rfl]
  congr 1
  rcases chunkStep_cases b s with ⟨h, e⟩ | ⟨-, hb, ha, hk, e⟩ | ⟨-, hb, ha, hk, e⟩ | ⟨-, hb, -, hp, e⟩ |
    ⟨-, hb, -, hp, hk, hv, e⟩ | ⟨-, hb, -, hp, hk, hv, e⟩ | ⟨-, hb, -, hp, hre, hf, e⟩ | ⟨-, hb, ha, hdrop, e⟩ <;>
    rw [e]
  · obtain rfl : b = [] := by simpa [hc] using h
    rfl
  · rw [classify_of_not_ack hinv hb ha, if_pos hk]
  · rw [classify_of_not_ack hinv hb ha, if_neg (by simp [hk]), dropUnrec_eq]
  · have hcls : classify s.cfg s.pstate b = .dataStart ∨ classify s.cfg s.pstate b = .dataCont := by
      cases hf : firstIs b sofData <;> simp [classify, hb, hp, hf]
    have hs : { s with pstate := .collectingData } = s := by rw [← hp]
    rw [hs]
    rcases hcls with hcls | hcls <;> rw [hcls]
  · have hcls : classify s.cfg s.pstate b = .chksum := by simp [classify, hb, hp, hk]
    rw [hcls]
    exact (if_pos hv).symm
  · have hcls : classify s.cfg s.pstate b = .chksum := by simp [classify, hb, hp, hk]
    rw [hcls]
    exact (if_neg hv).symm
  · have hcls : classify s.cfg s.pstate b = .dataStart := by simp [classify, hb, hp, hre, hf]
    rw [hcls]
  · rw [classify_of_dropped hinv hb ha hdrop, dropUnrec_eq]

end Sys2Proof.Machine
end

section
/-! SUPPORT. The FrameAccumulator (40_frame_accumulator.md): its six operations performed on their own, and a frame
fed in parts (R76). -/

namespace Sys2Proof.Machine

/-! ### One feed (R75) -/

/-- A chunk that begins with the start marker replaces the buffer. -/
theorem accFeed_start {b : List Byte} {s : State} (h : b.head? = some 0x40) (hfit : b.length ≤ s.cfg.accCap) :
    accFeed b s = { s with acc := b } := by
  have hfed : fedAcc b s = b := if_pos ((firstIs_iff b sofData).2 h)
  rw [accFeed_fits (feedFits_iff.2 (by rwa [hfed])), hfed]

/-- Any other chunk is appended. -/
theorem accFeed_continue {b : List Byte} {s : State} (h : b.head? ≠ some 0x40)
    (hfit : s.acc.length + b.length ≤ s.cfg.accCap) : accFeed b s = { s with acc := s.acc ++ b } := by
  have hfed : fedAcc b s = s.acc ++ b := if_neg (mt (firstIs_iff b sofData).1 h)
  rw [accFeed_fits (feedFits_iff.2 (by rwa [hfed, List.length_append])), hfed]

theorem feedBase_eq (b : List Byte) (s : State) :
    feedBase b s = if b.head? = some 0x40 then 0 else s.acc.length :=
  if_congr (firstIs_iff b sofData) rfl rfl

/-- Settles O31: by the two feeds that fit and the overflow. -/
theorem accumulatorWrites : Obligations.AccumulatorWrites := by
  refine ⟨fun s => rfl, fun b s hfit => ?_, fun b s _ => ⟨fun h hfit => ?_, fun h hfit => ?_, fun hover => ?_⟩⟩
  · have e : exec (.accAppend b) s = .next (s.appendAcc b) := congrArg Host.Outcome.next (if_pos hfit)
    rw [e, State.appendAcc, Memory.append_eq]
  · exact congrArg Host.Outcome.next (accFeed_start h hfit)
  · exact congrArg Host.Outcome.next (accFeed_continue h hfit)
  · rw [← feedBase_eq] at hover
    exact congrArg Host.Outcome.next (accFeed_overflows (decide_eq_false (Nat.not_le.2 hover)))

/-! ### The reads (R72 to R74) -/

/-- ACC.ISTERM by position: an empty buffer has no last byte. -/
theorem State.isTerm_eq (s : State) :
    s.isTerm = decide (1 ≤ s.acc.length ∧ s.acc[s.acc.length - 1]? = some 0x4F) := by
  have hpos : s.acc[s.acc.length - 1]? = some 0x4F → 1 ≤ s.acc.length := fun h => by
    obtain ⟨hlt, -⟩ := List.getElem?_eq_some_iff.1 h
    omega
  rw [Bool.eq_iff_iff, decide_eq_true_iff, and_iff_right_of_imp hpos, ← List.getLast?_eq_getElem?]
  exact lastIs_iff s.acc eofData

/-- Settles O32: each read records its value, the last byte and the interior by their positions. -/
theorem accumulatorReads : Obligations.AccumulatorReads := by
  intro s
  rw [← State.isTerm_eq, ← interior_eq]
  exact ⟨rfl, rfl, rfl⟩

/-! ### A frame in parts (R76) -/

@[simp] theorem after_accFeed (b : List Byte) (s : State) : after (.accFeed b) s = accFeed b s := rfl

/-- Chunks without a start marker, as far as they fit, are appended one after the other. -/
theorem afterAll_accFeed_continue {bs : List (List Byte)} {s : State} (h : (0x40 : Byte) ∉ bs.flatten)
    (hfit : s.acc.length + bs.flatten.length ≤ s.cfg.accCap) :
    afterAll (bs.map .accFeed) s = { s with acc := s.acc ++ bs.flatten } := by
  induction bs generalizing s with
  | nil => simp
  | cons b bs ih =>
    simp only [List.flatten_cons, List.mem_append, not_or, List.length_append] at h hfit
    obtain ⟨hb, hbs⟩ := h
    have hhead : b.head? ≠ some 0x40 := fun e => hb (List.mem_of_head? e)
    rw [List.map_cons, afterAll_cons, after_accFeed, accFeed_continue hhead (by omega),
      ih hbs (by simp only [List.length_append]; omega)]
    simp

/-- Chunks that begin with the frame's start marker, and hold no other one, leave their bytes whatever the buffer held. -/
theorem afterAll_accFeed_frame {bs : List (List Byte)} {q : List Byte} {s : State} (hne : ∀ b ∈ bs, b ≠ [])
    (hflat : bs.flatten = 0x40 :: q) (hq : (0x40 : Byte) ∉ q) (hfit : q.length + 1 ≤ s.cfg.accCap) :
    afterAll (bs.map .accFeed) s = { s with acc := bs.flatten } := by
  match bs with
  | [] => cases hflat
  | [] :: _ => exact absurd rfl (hne [] (by simp))
  | (x :: xs) :: bs =>
    obtain ⟨rfl, rfl⟩ : x = 0x40 ∧ xs ++ bs.flatten = q := by simpa using hflat
    have hlen : (0x40 :: xs).length + bs.flatten.length ≤ s.cfg.accCap := by
      simp only [List.length_append, List.length_cons] at hfit ⊢; omega
    rw [List.map_cons, afterAll_cons, after_accFeed, accFeed_start rfl (by omega),
      afterAll_accFeed_continue (fun hm => hq (List.mem_append_right xs hm)) hlen]
    rfl

theorem flatten_ne_nil {xs : List (List Byte)} (h : xs ≠ []) (hne : ∀ b ∈ xs, b ≠ []) : xs.flatten ≠ [] := by
  obtain ⟨b, hb⟩ := List.exists_mem_of_ne_nil xs h
  exact List.flatten_ne_nil_iff.2 ⟨b, hb, hne b hb⟩

/-- A proper part of a frame's chunks is an initial part of the start marker and the payload. -/
theorem flatten_prefix_of_proper {xs ys : List (List Byte)} {f : List Byte} {z : Byte}
    (hflat : (xs ++ ys).flatten = f ++ [z]) (hys : ys ≠ []) (hne : ∀ b ∈ ys, b ≠ []) : xs.flatten <+: f := by
  rw [List.flatten_append] at hflat
  rcases List.prefix_concat_iff.1 ⟨ys.flatten, hflat⟩ with hall | hpre
  · have hnil : ys.flatten = [] := List.append_right_eq_self.1 (hflat.trans hall.symm)
    exact absurd hnil (flatten_ne_nil hys hne)
  · exact hpre

/-- Settles O46: the first chunk restarts the buffer and the others are appended; before the last of them the buffer is
a part of `40 <p>`, which holds no end marker. -/
theorem accumulationIsChunkSizeInvariant : Obligations.AccumulationIsChunkSizeInvariant := by
  intro p bs s hsof heof hcap hne hflat
  refine ⟨?_, fun xs ys hbs hxs hys => ⟨_, runOps_eq_afterAll _ s, fun hlast => ?_⟩⟩
  · have hq : (0x40 : Byte) ∉ p ++ [0x4F] := by
      rw [List.mem_append]; exact not_or.2 ⟨hsof, by decide⟩
    have hlen : (p ++ [0x4F]).length + 1 ≤ s.cfg.accCap := by rwa [List.length_append]
    rw [runOps_eq_afterAll, afterAll_accFeed_frame hne hflat hq hlen, hflat]
  · subst hbs
    have hpre := flatten_prefix_of_proper hflat hys (fun b hb => hne b (List.mem_append_right xs hb))
    have hxne : ∀ b ∈ xs, b ≠ [] := fun b hb => hne b (List.mem_append_left ys hb)
    obtain ⟨q, hq, hqp⟩ := (List.prefix_cons_iff.1 hpre).resolve_left (flatten_ne_nil hxs hxne)
    have hlen : q.length ≤ p.length := hqp.length_le
    rw [afterAll_accFeed_frame hxne hq (fun hm => hsof (hqp.subset hm)) (by omega)] at hlast
    have hmem : (0x4F : Byte) ∈ 0x40 :: p := hpre.subset (List.mem_of_getLast? hlast)
    exact (List.mem_cons.1 hmem).elim (by decide) heof

end Sys2Proof.Machine
end

section
/-! SUPPORT. The ChecksumValidator (41_checksum_validator.md): the sum over the interior as a sum over positions. -/

namespace Sys2Proof.Machine

/-- The interior lists the bytes at the positions `1 <= i <= len(f) - 2` (30_encoding.md R58). -/
theorem interior_eq_map_range (f : List Byte) :
    interior f = (List.range (f.length - 2)).map (fun k => f.getD (k + 1) 0) := by
  rw [interior_eq]
  refine List.ext_getElem (by simp; omega) fun k hk _ => ?_
  have hlt : k + 1 < f.length := by simp at hk; omega
  simp [List.getElem?_eq_getElem hlt]

/-- CK.COMPUTE is the sum over the positions `1 <= i <= len(f) - 2`, modulo 256 (R80). -/
theorem ckCompute_toNat_positions (f : List Byte) :
    (ckCompute f).toNat =
      ((List.range (f.length - 2)).map (fun k => (f.getD (k + 1) 0).toNat)).sum % 256 := by
  rw [ckCompute_toNat, interior_eq_map_range, List.map_map]
  rfl

/-- Settles O33: the recorded byte is determined by its value, the sum over the positions. -/
theorem checksumIsTheSumModulo256 : Obligations.ChecksumIsTheSumModulo256 := by
  intro f s
  rw [← ckCompute_toNat_positions, BitVec.ofNat_toNat, BitVec.setWidth_eq]
  rfl

/-- Settles O34: bytes are equal when their values are, and the one byte that matches is CK.COMPUTE's. -/
theorem checksumValidationIsEquality : Obligations.ChecksumValidationIsEquality := by
  refine ⟨fun f c s => ?_, fun f => ⟨ckCompute f, (ckValidate_iff f _).2 rfl, fun c hc => ?_⟩⟩
  · rw [← ckCompute_toNat_positions]
    simp only [BitVec.toNat_inj]
    rfl
  · exact ((ckValidate_iff f c).1 hc).symm

end Sys2Proof.Machine
end

section
/-! SUPPORT. The HandshakeTimer (42_handshake_timer.md): TICK by its three branches, the retries until the ack, and the
timer's count at the port level; with the frames performed on their own. -/

namespace Sys2Proof.Machine

/-! ### TICK by the branches of R87 -/

/-- The engine waits for its ack: connected, the timer running, nothing acknowledged. -/
def State.AwaitsAck (s : State) : Prop := s.conn = true ∧ s.tmrRun = true ∧ s.ack = false

theorem tickStep_of_awaitsAck (x : TimeSample) {s : State} (h : s.AwaitsAck) :
    tickStep x s = s.reloadTimer.emitTx (timesyncFrame x) := by
  obtain ⟨hc, hr, ha⟩ := h
  simpa [hc, hr, ha] using tickStep_cases x s

theorem tickStep_of_acked (x : TimeSample) {s : State} (hc : s.conn = true) (hr : s.tmrRun = true)
    (ha : s.ack = true) : tickStep x s = s.stopTimer := by
  simpa [hc, hr, ha] using tickStep_cases x s

theorem tickStep_of_not_enabled (x : TimeSample) {s : State} (h : s.conn = false ∨ s.tmrRun = false) :
    tickStep x s = s := by
  rcases h with h | h <;> simpa [h] using tickStep_cases x s

/-- The time-sync frame byte by byte (R88). -/
theorem timesyncFrame_eq (x : TimeSample) :
    timesyncFrame x =
      [0x50, 0x00, 0x07, BitVec.ofNat 8 (x.year.toNat % 256), x.month, x.day, x.hour, x.minute, x.second, 0x5F] := by
  rw [timesyncFrame, yearLow_eq]
  rfl

/-- What TMR.STOP leaves as it is: everything but `tmr_run`, the pending tick and the counter (R90). -/
theorem State.stopTimer_frame (s : State) :
    s.stopTimer.tickPending = false ∧ s.stopTimer.eventView = { s.eventView with tmrRun := false } ∧
    s.stopTimer.cfg = s.cfg ∧ s.stopTimer.results = s.results ∧ s.stopTimer.rxBuf = s.rxBuf ∧
    s.stopTimer.rxAbandon = s.rxAbandon ∧ s.stopTimer.txq = s.txq ∧ s.stopTimer.txPos = s.txPos ∧
    s.stopTimer.evAck = s.evAck ∧ s.stopTimer.evPayload = s.evPayload ∧ s.stopTimer.outTrace = s.outTrace ∧
    s.stopTimer.inbox = s.inbox := by
  simp [State.eventView]

/-- Settles O14: the second branch of R87, its frame written out. -/
theorem tickBeforeAckSendsOneTimesync : Obligations.TickBeforeAckSendsOneTimesync := by
  intro x s hc hr ha
  rw [exec_eq_after, after_tick, tickStep_of_awaitsAck x ⟨hc, hr, ha⟩, ← timesyncFrame_eq]
  rfl

/-- Settles O15: the third branch of R87 is TMR.STOP. -/
theorem tickAfterAckStopsTheTimer : Obligations.TickAfterAckStopsTheTimer := by
  intro x s hc hr ha
  refine ⟨s.stopTimer, ?_, rfl, s.stopTimer_frame⟩
  rw [exec_eq_after, after_tick, tickStep_of_acked x hc hr ha]

/-- Settles O16: the first branch of R87. -/
theorem tickNotEnabledIsDropped : Obligations.TickNotEnabledIsDropped := by
  intro x s h
  rw [exec_eq_after, after_tick, tickStep_of_not_enabled x h]

/-- Settles O17: the start writes two registers, the stop leaves what `stopTimer_frame` says. -/
theorem timerStartAndStop : Obligations.TimerStartAndStop :=
  ⟨fun _ => rfl, fun s => ⟨s.stopTimer, rfl, s.stopTimer_frame⟩⟩

/-- Settles O30: each row emits its frame. -/
theorem outgoingFramesAreTheirBytes : Obligations.OutgoingFramesAreTheirBytes := by
  rintro s i f (⟨rfl, rfl⟩ | ⟨rfl, rfl⟩ | ⟨rfl, rfl⟩ | ⟨x, rfl, rfl⟩)
  · rfl
  · rfl
  · rfl
  · rw [← timesyncFrame_eq]
    rfl

/-! ### Retries until the ack (R92) -/

/-- What an operation emits while no ack has come: the time-sync frame of a tick. -/
def tickEmission : Instr → Option Emission
  | .tick x => some (.tx (timesyncFrame x))
  | _ => none

theorem tickEmission_of_chunkBytes {i : Instr} {b : List Byte} (h : i.chunkBytes = some b) : tickEmission i = none := by
  cases i with
  | tick x => cases h
  | _ => rfl

/-- From `s` the emissions `es` led to `t`, where the engine waits for its ack as before. -/
def Retries (s : State) (es : List Emission) (t : State) : Prop :=
  t.AwaitsAck ∧ t.trace = s.trace ++ es ∧ t.pstate = s.pstate ∧ t.acc = s.acc

theorem Retries.refl {s : State} (h : s.AwaitsAck) : Retries s [] s := ⟨h, by simp, rfl, rfl⟩

theorem Retries.trans {s t u : State} {es es' : List Emission} (h : Retries s es t) (h' : Retries t es' u) :
    Retries s (es ++ es') u := by
  obtain ⟨-, htrace, hp, hacc⟩ := h
  obtain ⟨hu, htrace', hp', hacc'⟩ := h'
  exact ⟨hu, by simp [htrace', htrace], hp'.trans hp, hacc'.trans hacc⟩

/-- Before the acknowledgment a chunk that is no ack is ignored or dropped (43_protocol_engine.md R103). -/
theorem chunkStep_retries {b : List Byte} {s : State} (h : s.AwaitsAck) (hb : isAck b = false) :
    Retries s [] (chunkStep b s) := by
  have hstep : chunkStep b s = s ∨ chunkStep b s = dropUnrec s := by
    obtain ⟨-, -, ha⟩ := h
    rcases chunkStep_cases b s with ⟨-, e⟩ | ⟨-, -, -, hb', -⟩ | ⟨-, -, -, -, e⟩ | ⟨-, -, ha', -⟩ | ⟨-, -, ha', -⟩ |
      ⟨-, -, ha', -⟩ | ⟨-, -, ha', -⟩ | ⟨-, -, ha', -⟩
    · exact .inl e
    · simp [hb] at hb'
    · exact .inr e
    all_goals simp [ha] at ha'
  rcases hstep with e | e <;> rw [e]
  · exact .refl h
  · exact ⟨h, by simp [dropUnrec], rfl, rfl⟩

theorem tickStep_retries (x : TimeSample) {s : State} (h : s.AwaitsAck) :
    Retries s [.tx (timesyncFrame x)] (tickStep x s) := by
  rw [tickStep_of_awaitsAck x h]
  exact ⟨h, rfl, rfl, rfl⟩

/-- An operation of the session that delivers no ack. -/
theorem after_retries {i : Instr} {s : State} (h : s.AwaitsAck) (hi : i.inSession = true)
    (hno : ∀ b, i.chunkBytes = some b → isAck b = false) : Retries s (tickEmission i).toList (after i s) := by
  rcases inSession_cases hi with ⟨b, hb⟩ | ⟨x, rfl⟩ | ⟨n, rfl⟩
  · rw [tickEmission_of_chunkBytes hb, after_of_chunkBytes hb]
    exact chunkStep_retries h (hno b hb)
  · exact tickStep_retries x h
  · exact ⟨h, by simp [tickEmission], rfl, rfl⟩

theorem afterAll_retries {is : List Instr} {s : State} (h : s.AwaitsAck) (hi : ∀ i ∈ is, i.inSession = true)
    (hno : ∀ i ∈ is, ∀ b, i.chunkBytes = some b → isAck b = false) :
    Retries s (is.filterMap tickEmission) (afterAll is s) := by
  induction is generalizing s with
  | nil => exact .refl h
  | cons i is ih =>
    obtain ⟨hi0, his⟩ := List.forall_mem_cons.1 hi
    obtain ⟨hno0, hnos⟩ := List.forall_mem_cons.1 hno
    have hstep := after_retries h hi0 hno0
    have hsplit : (i :: is).filterMap tickEmission = (tickEmission i).toList ++ is.filterMap tickEmission := by
      cases hr : tickEmission i <;> simp [hr]
    rw [hsplit]
    exact hstep.trans (ih hstep.1 his hnos)

/-- Settles O48: by induction over the operations, each of which retries or changes nothing that is seen. -/
theorem everyTickRetriesUntilTheAck : Obligations.EveryTickRetriesUntilTheAck := by
  intro is s t hc hr ha hi hno hrun
  rw [runOps_eq_afterAll] at hrun
  injection hrun with e
  subst e
  obtain ⟨⟨-, hr', ha'⟩, htrace, hp, hacc⟩ := afterAll_retries ⟨hc, hr, ha⟩ hi
    fun i him b hb => Bool.eq_false_iff.2 fun hack => hno i him b hb ((isAck_iff b).1 hack)
  refine ⟨htrace.trans (congrArg _ (List.filterMap_congr fun i _ => ?_)), ha', hr', hp, hacc⟩
  cases i <;> rfl

/-! ### The timer's count over quiet cycles (R89) -/

@[simp] theorem txTransfer_tmrCnt (r : Bool) (s : State) : (txTransfer r s).tmrCnt = s.tmrCnt := by
  unfold txTransfer
  split
  · rfl
  · split
    · split <;> rfl
    · rfl

theorem timerClock_counts {s : State} (hr : s.tmrRun = true) (hn : s.tmrCnt ≠ 0) :
    timerClock s = { s with tmrCnt := s.tmrCnt - 1 } := by
  simp [timerClock, hr, hn]

theorem timerClock_ready {s : State} (hr : s.tmrRun = true) (hn : s.tmrCnt = 0) :
    timerClock s = { s.reloadTimer with tickPending := true } := by
  simp [timerClock, hr, hn]

/-- The engine waits for its ack, no tick is pending, and nothing would hold one back. -/
def State.AwaitsTick (s : State) : Prop :=
  s.AwaitsAck ∧ s.tickPending = false ∧ s.rxBuf = [] ∧ s.txq.length < s.cfg.txqDepth

/-- Above 0 the clock only counts down, and no tick is due. -/
theorem portTick_timerClock_counts (x : TimeSample) {s : State} (h : s.AwaitsTick) (hn : s.tmrCnt ≠ 0) :
    portTick x (timerClock s) = { s with tmrCnt := s.tmrCnt - 1 } := by
  obtain ⟨⟨-, hr, -⟩, hpend, -⟩ := h
  rw [timerClock_counts hr hn]
  exact portTick_not_due x (by simp [State.tickDue, hpend])

/-- At 0 the clock makes a tick ready, which is due at once and is TICK (log 16). -/
theorem portTick_timerClock_fires (x : TimeSample) {s : State} (h : s.AwaitsTick) (hn : s.tmrCnt = 0) :
    portTick x (timerClock s) = tickStep x s := by
  obtain ⟨hack, hpend, hbuf, hroom⟩ := h
  have hdue : ({ s.reloadTimer with tickPending := true } : State).tickDue = true :=
    (State.tickDue_iff _).2 ⟨rfl, hbuf, hroom⟩
  have hlatch : ({ s.reloadTimer with tickPending := false } : State) = s.reloadTimer := by
    simp [State.reloadTimer, hpend]
  rw [timerClock_ready hack.2.1 hn, portTick, if_pos hdue, tickStep_of_awaitsAck x hack, hlatch]
  obtain ⟨hc, hr, ha⟩ := hack
  simp [fireTick, State.tickEnabled, hc, hr, ha]

/-- What comes before the clock in a quiet cycle disturbs neither the wait nor the counter nor the event level. -/
theorem quietTransfers_awaitsTick (p : PortIn) {s : State} (h : s.AwaitsTick) :
    (txTransfer p.txReady (cycleStart p s)).AwaitsTick ∧
    (txTransfer p.txReady (cycleStart p s)).tmrCnt = s.tmrCnt ∧
    SameEvents (txTransfer p.txReady (cycleStart p s)) s := by
  obtain ⟨⟨hc, hr, ha⟩, hpend, hbuf, hroom⟩ := h
  have hsame := (txTransfer_same p.txReady (cycleStart p s)).trans' (cycleStart_same p s)
  obtain ⟨ebuf, -, epend, -⟩ := txTransfer_frame p.txReady (cycleStart p s)
  have hlen : (txTransfer p.txReady (cycleStart p s)).txq.length ≤ s.txq.length := txTransfer_length_le _ _
  refine ⟨⟨⟨hsame.conn.trans hc, hsame.tmrRun.trans hr, hsame.ack.trans ha⟩, epend.trans hpend, ebuf.trans hbuf, ?_⟩,
    txTransfer_tmrCnt _ _, hsame⟩
  rw [hsame.2]
  exact Nat.lt_of_le_of_lt hlen hroom

/-- A quiet cycle that finds the counter above 0 counts down and does nothing else that is seen. -/
theorem portCycle_counts {p : PortIn} {s : State} (hq : p.quiet = true) (h : s.AwaitsTick) (hn : s.tmrCnt ≠ 0) :
    (portCycle p s).AwaitsTick ∧ (portCycle p s).tmrCnt = s.tmrCnt - 1 ∧ SameEvents (portCycle p s) s := by
  obtain ⟨hwait, hcnt, hsame⟩ := quietTransfers_awaitsTick p h
  rw [portCycle_quiet p s hq, portTick_timerClock_counts _ hwait (hcnt ▸ hn)]
  exact ⟨hwait, congrArg (· - 1) hcnt, hsame⟩

/-- A quiet cycle that finds the counter at 0 processes the tick that becomes ready (log 16). -/
theorem portCycle_fires {p : PortIn} {s : State} (hq : p.quiet = true) (h : s.AwaitsTick) (hn : s.tmrCnt = 0) :
    (portCycle p s).trace = s.trace ++ [.tx (timesyncFrame p.rtc)] ∧ (portCycle p s).tmrCnt = s.cfg.tickDiv - 1 ∧
    (portCycle p s).tickPending = false := by
  obtain ⟨hwait, hcnt, hsame⟩ := quietTransfers_awaitsTick p h
  rw [portCycle_quiet p s hq, portTick_timerClock_fires _ hwait (hcnt.trans hn), tickStep_of_awaitsAck _ hwait.1]
  exact ⟨congrArg (· ++ _) hsame.trace, congrArg (·.tickDiv - 1) hsame.2, hwait.2.1⟩

/-- Quiet cycles, no more than the counter says, count down by their number. -/
theorem runCycles_counts {ps : List PortIn} {s : State} (hq : ∀ q ∈ ps, q.quiet = true) (h : s.AwaitsTick)
    (hn : ps.length ≤ s.tmrCnt) :
    (runCycles ps s).AwaitsTick ∧ (runCycles ps s).tmrCnt = s.tmrCnt - ps.length ∧ SameEvents (runCycles ps s) s := by
  induction ps generalizing s with
  | nil => exact ⟨h, rfl, .rfl' s⟩
  | cons p ps ih =>
    obtain ⟨hqp, hqs⟩ := List.forall_mem_cons.1 hq
    rw [List.length_cons] at hn
    obtain ⟨hwait, hcnt, hsame⟩ := portCycle_counts hqp h (by omega)
    obtain ⟨hwait', hcnt', hsame'⟩ := ih hqs hwait (by omega)
    refine ⟨hwait', ?_, hsame'.trans' hsame⟩
    calc (runCycles ps (portCycle p s)).tmrCnt = s.tmrCnt - 1 - ps.length := by rw [hcnt', hcnt]
      _ = s.tmrCnt - (p :: ps).length := by rw [List.length_cons]; omega

/-- Settles O54: the counter runs down to 0 over the cycles, and the next one fires. -/
theorem timerFiresWhenItsCounterRunsOut : Obligations.TimerFiresWhenItsCounterRunsOut := by
  intro ps p s hc hr ha hpend hbuf hroom hlen hqs hq
  obtain ⟨hwait, hcnt, hsame⟩ := runCycles_counts hqs ⟨⟨hc, hr, ha⟩, hpend, hbuf, hroom⟩ hlen.le
  obtain ⟨htrace, hcnt', hpend'⟩ := portCycle_fires hq hwait (by rw [hcnt, hlen, Nat.sub_self])
  rw [hsame.trace] at htrace
  rw [hsame.2] at hcnt'
  exact ⟨hsame.trace, htrace, hcnt', hpend'⟩

end Sys2Proof.Machine
end

section
/-! SUPPORT. The ProtocolEngine (43_protocol_engine.md): the CHUNK step row by row of the dispatch of R100. -/

namespace Sys2Proof.Machine

/-! ### The rows of R100 -/

/-- R100 (a) and (b). -/
theorem chunkStep_of_ignored {b : List Byte} {s : State} (h : s.conn = false ∨ b = []) : chunkStep b s = s := by
  rcases h with h | h <;> simp [chunkStep, h]

/-- R102 and R103. -/
theorem chunkStep_of_not_ack {b : List Byte} {s : State} (hc : s.conn = true) (hb : b ≠ []) (ha : s.ack = false) :
    chunkStep b s = if isAck b then acknowledge s else dropUnrec s := by
  simp [chunkStep, hc, hb, ha]

/-- R104 to R106. -/
theorem chunkStep_of_collecting {b : List Byte} {s : State} (hc : s.conn = true) (hb : b ≠ []) (ha : s.ack = true)
    (hp : s.pstate = .collectingData) : chunkStep b s = collect b s := by
  simp [chunkStep, hc, hb, ha, hp]

/-- R108 and R109. -/
theorem chunkStep_of_checksum {b : List Byte} {s : State} (hc : s.conn = true) (ha : s.ack = true)
    (hp : s.pstate = .awaitingChecksum) (hk : isCk b = true) :
    chunkStep b s = if ckCompute s.acc = ckByte b then validated s else mismatched s := by
  have hb : b ≠ [] := by
    rintro rfl
    cases hk
  by_cases hv : ckCompute s.acc = ckByte b <;> simp [chunkStep, hc, hb, ha, hp, hk, ckValidate, hv]

/-- R112 with RESEND_REENTRY = 1. -/
theorem chunkStep_of_reentry {b : List Byte} {s : State} (hc : s.conn = true) (hb : b ≠ []) (ha : s.ack = true)
    (hp : s.pstate = .resendRequested) (hre : s.cfg.resendReentry = true) (hf : firstIs b sofData = true) :
    chunkStep b s = collect b { s with pstate := .collectingData } := by
  simp [chunkStep, hc, hb, ha, hp, hre, hf]

/-- No rule of the active state recognises the chunk after the acknowledgment (R110, R111, R112). -/
def Unrecognised (b : List Byte) (s : State) : Prop :=
  (s.pstate = .awaitingChecksum ∧ isCk b = false) ∨ s.pstate = .complete ∨
    (s.pstate = .resendRequested ∧ (s.cfg.resendReentry && firstIs b sofData) = false)

theorem chunkStep_of_unrecognised {b : List Byte} {s : State} (hc : s.conn = true) (hb : b ≠ []) (ha : s.ack = true)
    (h : Unrecognised b s) : chunkStep b s = dropUnrec s := by
  rcases h with ⟨hp, hk⟩ | hp | ⟨hp, hf⟩
  · simp [chunkStep, hc, hb, ha, hp, hk]
  · simp [chunkStep, hc, hb, ha, hp]
  · simp only [chunkStep, hp, hf]
    simp [hc, hb, ha]

/-! ### The recognisers and the buffer, by positions -/

/-- `isCk` (30_encoding.md R53) by positions. -/
theorem isCk_iff_positions (b : List Byte) :
    isCk b = true ↔ b.length = 3 ∧ b[0]? = some 0x40 ∧ b[2]? = some 0x4F := by
  rw [isCk_iff]
  constructor
  · rintro ⟨c, rfl⟩
    exact ⟨rfl, rfl, rfl⟩
  · rintro ⟨hlen, h0, h2⟩
    obtain ⟨x, c, z, rfl⟩ := List.length_eq_three.1 hlen
    obtain ⟨rfl, rfl⟩ : x = 0x40 ∧ z = 0x4F := ⟨Option.some.inj h0, Option.some.inj h2⟩
    exact ⟨c, rfl⟩

theorem isCk_eq_false {b : List Byte} (h : ¬(b.length = 3 ∧ b[0]? = some 0x40 ∧ b[2]? = some 0x4F)) :
    isCk b = false :=
  Bool.eq_false_iff.2 (mt (isCk_iff_positions b).1 h)

theorem fedAcc_eq (b : List Byte) (s : State) : fedAcc b s = if b.head? = some 0x40 then b else s.acc ++ b :=
  if_congr (firstIs_iff b sofData) rfl rfl

/-- The checksum of a buffer equals a byte exactly when the interior's sum modulo 256 does (R108). -/
theorem ckCompute_eq_iff (f : List Byte) (c : Byte) :
    ckCompute f = c ↔ c.toNat = (((f.drop 1).take (f.length - 2)).map BitVec.toNat).sum % 256 := by
  rw [← interior_eq, ← ckCompute_toNat, eq_comm (a := c.toNat), BitVec.toNat_inj]

/-! ### The statements of one CHUNK -/

/-- Settles O26, by R100 (a) and (b). -/
theorem ignoredChunkChangesNothing : Obligations.IgnoredChunkChangesNothing := by
  intro i b s hi h
  rw [exec_of_chunkBytes hi, chunkStep_of_ignored h]

/-- Settles O18, by the row of R102. -/
theorem ackChunkAcknowledges : Obligations.AckChunkAcknowledges := by
  intro i b s hi hc ha hlen h0 h1 hlast
  have hack : isAck b = true := (isAck_iff b).2 ⟨hlen, h0, h1, hlast⟩
  have hb : b ≠ [] := by
    rintro rfl
    cases h0
  rw [exec_of_chunkBytes hi, chunkStep_of_not_ack hc hb ha, if_pos hack, acknowledge_eq]
  rfl

/-- Settles O19, by the row of R103. -/
theorem otherChunkBeforeAckIsDropped : Obligations.OtherChunkBeforeAckIsDropped := by
  intro i b s hi hc ha hb hno
  rw [exec_of_chunkBytes hi, chunkStep_of_not_ack hc hb ha, if_neg (mt (isAck_iff b).1 hno), dropUnrec_eq]

/-- Settles O20: the chunk is fed, and its own last byte decides whether the frame ends (R104, R105). -/
theorem fittingChunkIsCollected : Obligations.FittingChunkIsCollected := by
  intro i b acc' s hi hc ha hp hb hacc hfit
  rw [← fedAcc_eq] at hacc
  subst hacc
  have hfits : feedFits b s = true := feedFits_iff.2 hfit
  rw [exec_of_chunkBytes hi, chunkStep_of_collecting hc hb ha hp]
  exact ⟨fun ht => congrArg Host.Outcome.next (collect_goes_on hb hfits ht),
    fun ht => congrArg Host.Outcome.next (collect_terminates hb hfits ht)⟩

/-- Settles O21, by the overflow of R106. -/
theorem overflowingChunkIsDiscarded : Obligations.OverflowingChunkIsDiscarded := by
  intro i b s hi hc ha hp hb hover
  rw [← feedBase_eq] at hover
  have hfits : feedFits b s = false := decide_eq_false (Nat.not_le.2 hover)
  rw [exec_of_chunkBytes hi, chunkStep_of_collecting hc hb ha hp, collect_overflows hfits]

/-- Settles O22, by the row of R108. -/
theorem matchingChecksumDeliversThePayload : Obligations.MatchingChecksumDeliversThePayload := by
  intro i c s hi hc ha hp hsum
  have hmatch : ckCompute s.acc = ckByte [sofData, c, eofData] := (ckCompute_eq_iff s.acc c).2 hsum
  rw [exec_of_chunkBytes hi, ← interior_eq]
  exact congrArg Host.Outcome.next ((chunkStep_of_checksum hc ha hp (isCk_frame c)).trans (if_pos hmatch))

/-- Settles O23, by the row of R109. -/
theorem mismatchingChecksumRequestsAResend : Obligations.MismatchingChecksumRequestsAResend := by
  intro i c s hi hc ha hp hsum
  have hmismatch : ckCompute s.acc ≠ ckByte [sofData, c, eofData] := mt (ckCompute_eq_iff s.acc c).1 hsum
  rw [exec_of_chunkBytes hi]
  exact congrArg Host.Outcome.next ((chunkStep_of_checksum hc ha hp (isCk_frame c)).trans (if_neg hmismatch))

/-- Settles O24: in each of its cases the chunk is unrecognised. -/
theorem unrecognisedChunkIsDropped : Obligations.UnrecognisedChunkIsDropped := by
  intro i b s hi hc ha hb h
  have hun : Unrecognised b s := by
    rcases h with ⟨hp, hk⟩ | hp | ⟨hp, hre | hf⟩
    · exact .inl ⟨hp, isCk_eq_false hk⟩
    · exact .inr (.inl hp)
    · exact .inr (.inr ⟨hp, by rw [hre, Bool.false_and]⟩)
    · have hfirst : firstIs b sofData = false := Bool.eq_false_iff.2 (mt (firstIs_iff b sofData).1 hf)
      exact .inr (.inr ⟨hp, by rw [hfirst, Bool.and_false]⟩)
  rw [exec_of_chunkBytes hi, chunkStep_of_unrecognised hc hb ha hun, dropUnrec_eq]

/-- Settles O25: both sides collect the chunk from CollectingData. -/
theorem reentryIsProcessedAsData : Obligations.ReentryIsProcessedAsData := by
  intro i b s hi hc ha hp hre hf
  have hb : b ≠ [] := by
    rintro rfl
    cases hf
  rw [exec_of_chunkBytes hi, exec_of_chunkBytes (i := .chunk b) rfl,
    chunkStep_of_reentry hc hb ha hp hre ((firstIs_iff b sofData).2 hf), chunkStep_of_collecting]
  · exact hc
  · exact hb
  · exact ha
  · rfl

end Sys2Proof.Machine
end

section
/-! SUPPORT. The ProtocolEngine over a session: the states in which nothing that comes in is recognised, and the order
of the frames of one connection (43_protocol_engine.md R110 to R116). -/

namespace Sys2Proof.Machine

/-! ### States that only wait (R110, R111, R112) -/

/-- The engine stands in `t` where it stood in `s`, and has emitted nothing since. -/
def Stays (s t : State) : Prop :=
  t.ack = s.ack ∧ t.cfg = s.cfg ∧ t.pstate = s.pstate ∧ t.acc = s.acc ∧ t.trace = s.trace

theorem Stays.refl (s : State) : Stays s s := ⟨rfl, rfl, rfl, rfl, rfl⟩

theorem Stays.trans {s t u : State} (h : Stays s t) (h' : Stays t u) : Stays s u := by
  obtain ⟨ha, hcfg, hp, hacc, htrace⟩ := h
  obtain ⟨ha', hcfg', hp', hacc', htrace'⟩ := h'
  exact ⟨ha'.trans ha, hcfg'.trans hcfg, hp'.trans hp, hacc'.trans hacc, htrace'.trans htrace⟩

/-- What is unrecognised stays so. -/
theorem Stays.unrecognised {s t : State} {b : List Byte} (h : Stays s t) (hb : Unrecognised b s) : Unrecognised b t := by
  obtain ⟨-, hcfg, hp, -⟩ := h
  rwa [Unrecognised, hp, hcfg]

theorem chunkStep_stays {b : List Byte} {s : State} (ha : s.ack = true) (h : Unrecognised b s) :
    Stays s (chunkStep b s) := by
  by_cases hign : s.conn = false ∨ b = []
  · rw [chunkStep_of_ignored hign]
    exact .refl s
  · obtain ⟨hc, hb⟩ := not_or.1 hign
    rw [chunkStep_of_unrecognised (by simpa using hc) hb ha h]
    exact .refl s

/-- After the acknowledgment a tick at most stops the timer (42_handshake_timer.md R87). -/
theorem tickStep_stays (x : TimeSample) {s : State} (ha : s.ack = true) : Stays s (tickStep x s) := by
  rcases tickStep_cases x s with ⟨-, e⟩ | ⟨-, -, hna, -⟩ | ⟨-, -, -, e⟩
  · rw [e]
    exact .refl s
  · simp [ha] at hna
  · rw [e]
    exact .refl s

theorem after_stays {i : Instr} {s : State} (ha : s.ack = true) (hi : i.inSession = true)
    (hun : ∀ b, i.chunkBytes = some b → Unrecognised b s) : Stays s (after i s) := by
  rcases inSession_cases hi with ⟨b, hb⟩ | ⟨x, rfl⟩ | ⟨n, rfl⟩
  · rw [after_of_chunkBytes hb]
    exact chunkStep_stays ha (hun b hb)
  · exact tickStep_stays x ha
  · exact .refl s

/-- A session all of whose chunks are unrecognised at its start leaves the engine where it was. -/
theorem runOps_stays {es : List Instr} {s t : State} (ha : s.ack = true) (hi : ∀ i ∈ es, i.inSession = true)
    (hun : ∀ i ∈ es, ∀ b, i.chunkBytes = some b → Unrecognised b s) (hrun : runOps es s = .next t) : Stays s t :=
  runOps_induct hrun (.refl s) fun i him _ hu =>
    hu.trans (after_stays (hu.1.trans ha) (hi i him) fun b hb => hu.unrecognised (hun i him b hb))

/-- Settles O49: in AwaitingChecksum every chunk but a checksum frame is unrecognised. -/
theorem waitsForTheChecksumFrame : Obligations.WaitsForTheChecksumFrame := by
  intro es s t ha hp hi hno hrun
  obtain ⟨-, -, hp', hacc, htrace⟩ := runOps_stays ha hi
    (fun i him b hb => .inl ⟨hp, isCk_eq_false (hno i him b hb)⟩) hrun
  exact ⟨hp'.trans hp, hacc, htrace⟩

/-- Settles O50: in both states every chunk is unrecognised. -/
theorem terminalStatesAreLeftOnlyByConnectionControl :
    Obligations.TerminalStatesAreLeftOnlyByConnectionControl := by
  intro es s t ha hterm hi hrun
  have hun : ∀ b, Unrecognised b s := fun b =>
    .inr (hterm.imp_right fun ⟨hp, hre⟩ => ⟨hp, by rw [hre, Bool.false_and]⟩)
  obtain ⟨-, -, hp, hacc, htrace⟩ := runOps_stays ha hi (fun _ _ b _ => hun b) hrun
  exact ⟨hp, hacc, htrace⟩

/-! ### The frames of one connection (R114) -/

/-- The requests that stand on tx_trace when `pstate` has been reached without re-entry. -/
def PState.requests : PState → List Frame
  | .awaitingAck => []
  | .collectingData => [dataReqFrame]
  | .awaitingChecksum | .complete => [dataReqFrame, chkReqFrame]
  | .resendRequested => [dataReqFrame, chkReqFrame, resendFrame]

/-- From `s` to `t` exactly the requests of the new `pstate` that were still to come were emitted. -/
def Requests (s t : State) : Prop :=
  ∃ fs, t.txTrace = s.txTrace ++ fs ∧ t.pstate.requests = s.pstate.requests ++ fs

/-- A part of a step that emits no frame and asks for none. -/
theorem Requests.nothing {s t : State} (htrace : t.txTrace = s.txTrace)
    (hp : t.pstate.requests = s.pstate.requests) : Requests s t :=
  ⟨[], by simp [htrace], by simp [hp]⟩

theorem Requests.one {s t : State} {f : Frame} (htrace : t.txTrace = s.txTrace ++ [f])
    (hp : t.pstate.requests = s.pstate.requests ++ [f]) : Requests s t := ⟨[f], htrace, hp⟩

theorem acknowledge_requests {s : State} (hp : s.pstate = .awaitingAck) : Requests s (acknowledge s) :=
  .one (f := dataReqFrame) (by simp [acknowledge_eq, State.txTrace]) (by simp [acknowledge_eq, hp, PState.requests])

theorem collect_requests {b : List Byte} {s : State} (hb : b ≠ []) (hp : s.pstate = .collectingData) :
    Requests s (collect b s) := by
  rcases collect_cases s hb with ⟨-, e⟩ | ⟨-, -, e⟩ | ⟨-, -, e⟩ <;> rw [e]
  · exact .nothing rfl rfl
  · exact .nothing rfl rfl
  · exact .one (f := chkReqFrame) (by simp [State.txTrace]) (by simp [hp, PState.requests])

theorem validated_requests {s : State} (hp : s.pstate = .awaitingChecksum) : Requests s (validated s) :=
  .nothing (by simp [validated_eq, State.txTrace]) (by simp [validated_eq, hp, PState.requests])

theorem mismatched_requests {s : State} (hp : s.pstate = .awaitingChecksum) : Requests s (mismatched s) :=
  .one (f := resendFrame) (by simp [mismatched_eq, State.txTrace]) (by simp [mismatched_eq, hp, PState.requests])

/-- Without re-entry a CHUNK step emits the request of the state it enters, row by row of R100. -/
theorem chunkStep_requests (b : List Byte) {s : State} (hinv : s.ArchInv) (hre : s.cfg.resendReentry = false) :
    Requests s (chunkStep b s) := by
  rcases chunkStep_cases b s with ⟨-, e⟩ | ⟨-, -, ha, -, e⟩ | ⟨-, -, -, -, e⟩ | ⟨-, hb, -, hp, e⟩ |
    ⟨-, -, -, hp, -, -, e⟩ | ⟨-, -, -, hp, -, -, e⟩ | ⟨-, -, -, -, hre', -, e⟩ | ⟨-, -, -, -, e⟩ <;> rw [e]
  · exact .nothing rfl rfl
  · exact acknowledge_requests (hinv.pstate_of_not_ack ha)
  · exact .nothing rfl rfl
  · exact collect_requests hb hp
  · exact validated_requests hp
  · exact mismatched_requests hp
  · simp [hre] at hre'
  · exact .nothing rfl rfl

/-- Since `s` time-sync frames were emitted, then the requests of the present `pstate`. -/
def FramesInOrder (s t : State) : Prop :=
  ∃ ts : List TimeSample, t.txTrace = s.txTrace ++ ts.map timesyncFrame ++ t.pstate.requests

theorem FramesInOrder.requests {s t u : State} (h : FramesInOrder s t) (h' : Requests t u) : FramesInOrder s u := by
  obtain ⟨ts, htrace⟩ := h
  obtain ⟨fs, htrace', hp⟩ := h'
  exact ⟨ts, by rw [htrace', htrace, hp, List.append_assoc]⟩

/-- A time-sync frame is emitted before the acknowledgment only, when nothing has been requested yet (R87). -/
theorem FramesInOrder.tickStep {s t : State} (x : TimeSample) (hinv : t.ArchInv) (h : FramesInOrder s t) :
    FramesInOrder s (tickStep x t) := by
  rcases tickStep_cases x t with ⟨-, e⟩ | ⟨-, -, ha, e⟩ | ⟨-, -, -, e⟩ <;> rw [e]
  · exact h
  · obtain ⟨ts, htrace⟩ := h
    have hp := hinv.pstate_of_not_ack ha
    have hreload : t.reloadTimer.txTrace = t.txTrace := rfl
    exact ⟨ts ++ [x], by simp [hreload, htrace, hp, PState.requests]⟩
  · exact h

/-- What every operation of a connection keeps while RESEND_REENTRY = 0. -/
def SessionInOrder (s t : State) : Prop := t.cfg.resendReentry = false ∧ t.ArchInv ∧ FramesInOrder s t

theorem connectStep_sessionInOrder {s : State} (hre : s.cfg.resendReentry = false) :
    SessionInOrder s (connectStep s) :=
  ⟨hre, connectStep_archInv s, [], by simp [connectStep, State.txTrace, PState.requests]⟩

theorem SessionInOrder.after {s t : State} {i : Instr} (h : SessionInOrder s t) (hi : i.inSession = true) :
    SessionInOrder s (after i t) := by
  obtain ⟨hre, hinv, hframes⟩ := h
  rcases inSession_cases hi with ⟨b, hb⟩ | ⟨x, rfl⟩ | ⟨n, rfl⟩
  · rw [after_of_chunkBytes hb]
    exact ⟨by rwa [(chunkStep_kept b t).1], chunkStep_archInv b hinv, hframes.requests (chunkStep_requests b hinv hre)⟩
  · exact ⟨by rwa [after_tick, (tickStep_cfg_acc x t).1], tickStep_archInv x hinv, hframes.tickStep x hinv⟩
  · exact ⟨hre, hinv, hframes⟩

/-- Settles O45: the order holds after CONNECT, every operation keeps it, and the requests of each `pstate` are one of
the four initial parts. -/
theorem framesOfOneConnectionAreInOrder : Obligations.FramesOfOneConnectionAreInOrder := by
  intro es s t hre hi hrun
  have hstart : runOps es (connectStep s) = .next t := hrun
  obtain ⟨-, -, ts, htrace⟩ := runOps_induct hstart (connectStep_sessionInOrder hre)
    fun i him _ hu => hu.after (hi i him)
  refine ⟨ts, _, htrace, ?_⟩
  cases t.pstate with
  | awaitingAck => exact .inl rfl
  | collectingData => exact .inr (.inl rfl)
  | awaitingChecksum | complete => exact .inr (.inr (.inl rfl))
  | resendRequested => exact .inr (.inr (.inr rfl))

end Sys2Proof.Machine
end

section
/-! SUPPORT. Connection control and the payload read (44_connection_control.md): the next state of each control
operation, and where RDPL reads a byte. -/

namespace Sys2Proof.Machine

/-! ### The control operations -/

/-- A stopped timer keeps its counter: no new free value is drawn (log 6). -/
theorem State.stopTimer_of_stopped {s : State} (hr : s.tmrRun = false) (hp : s.tickPending = false) :
    s.stopTimer = s := by
  cases s
  simp_all [State.stopTimer]

theorem hresetStep_eq (s : State) :
    hresetStep s =
      { s.stopTimer with
        conn := false, pstate := .awaitingAck, ack := false, acc := [], fltOvf := false
        rxBuf := [], rxAbandon := s.rxAbandon || !s.rxBuf.isEmpty
        txq := [], txPos := 0, evAck := false, evPayload := false } := rfl

theorem connectStep_eq (s : State) :
    connectStep s =
      { s with
        conn := true, pstate := .awaitingAck, ack := false, acc := [], fltOvf := false
        tmrRun := true, tmrCnt := s.cfg.firstDelayCycles - 1
        rxBuf := [], rxAbandon := s.rxAbandon || !s.rxBuf.isEmpty, tickPending := false } := rfl

theorem disconnectStep_eq (s : State) :
    disconnectStep s =
      { s.stopTimer with
        conn := false, pstate := .awaitingAck, ack := false, acc := []
        rxBuf := [], rxAbandon := s.rxAbandon || !s.rxBuf.isEmpty
        txq := [], txPos := 0 } := rfl

/-- What the two invariants say of a state without a connection: of all that DISCONNECT discards there is nothing. -/
theorem State.ArchInv.idle {s : State} (h : s.ArchInv) (hport : s.PortInv) (hc : s.conn = false) :
    s.pstate = .awaitingAck ∧ s.ack = false ∧ s.acc = [] ∧ s.tmrRun = false ∧ s.rxBuf = [] ∧ s.txq = [] ∧
      s.txPos = 0 ∧ s.tickPending = false := by
  obtain ⟨hidle, -⟩ := h
  obtain ⟨-, -, hpos, -, hempty, -, hpend, -⟩ := hport
  obtain ⟨hp, ha, hlen, hr⟩ := hidle hc
  obtain ⟨hq, hbuf⟩ := hempty hc
  exact ⟨hp, ha, List.eq_nil_of_length_eq_zero hlen, hr, hbuf, hq, hpos hq, by simpa [hr] using hpend⟩

theorem disconnectStep_of_idle {s : State} (h : s.ArchInv) (hport : s.PortInv) (hc : s.conn = false) :
    disconnectStep s = s := by
  obtain ⟨hp, ha, hacc, hr, hbuf, hq, hpos, hpend⟩ := h.idle hport hc
  rw [disconnectStep_eq, State.stopTimer_of_stopped hr hpend]
  cases s
  simp_all

/-- Settles O9: the registers that `hresetStep_eq` writes, the others as TMR.STOP leaves them. -/
theorem hresetLeavesTheIdleState : Obligations.HresetLeavesTheIdleState := by
  intro s
  refine ⟨hresetStep s, exec_eq_after .hreset s, ?_⟩
  simp [hresetStep_eq]

/-- Settles O10: the first delay of R85 is `1000 * CLK_HZ / 1000` cycles. -/
theorem connectCreatesAFreshEngine : Obligations.ConnectCreatesAFreshEngine := by
  intro s
  rw [exec_eq_after, after_connect, connectStep_eq, Config.firstDelayCycles, timerFirstDelayMs]

/-- Settles O11: the registers that `disconnectStep_eq` writes, the others as TMR.STOP leaves them. -/
theorem disconnectDiscardsTheEngine : Obligations.DisconnectDiscardsTheEngine := by
  intro s
  refine ⟨disconnectStep s, exec_eq_after .disconnect s, ?_⟩
  simp [disconnectStep_eq]

/-- Settles O12: DISCONNECT finds nothing to discard. -/
theorem disconnectWithoutConnectionChangesNothing : Obligations.DisconnectWithoutConnectionChangesNothing := by
  intro s h hport hc
  rw [exec_eq_after, after_disconnect, disconnectStep_of_idle h hport hc]

/-! ### The payload read -/

/-- The payload's indices: in Complete, those of the frame buffer without its two markers (20_memory.md R47). -/
theorem State.lt_plLen_iff {s : State} {n : Nat} :
    n < s.plLen ↔ s.pstate = .complete ∧ n < s.acc.length - 2 := by
  by_cases h : s.pstate = .complete <;> simp [State.plLen, State.accLen, h]

theorem State.readPayload_of_lt {s : State} {n : Nat} {v : Byte} (h : n < s.plLen) (hv : s.acc[n + 1]? = some v) :
    s.readPayload n = v := by
  rw [State.readPayload, if_pos h, Memory.read, hv, Option.getD_some]

theorem State.readPayload_of_not_lt {s : State} {n : Nat} (h : ¬ n < s.plLen) : s.readPayload n = 0x00 :=
  if_neg h

/-- Settles O35: the index is one of the payload's or it is not. -/
theorem payloadReadReturnsTheByte : Obligations.PayloadReadReturnsTheByte := by
  intro n s
  refine ⟨fun v hp hn hv => ?_, fun h => ?_⟩
  · rw [exec_eq_after, after_rdpl, State.readPayload_of_lt (State.lt_plLen_iff.2 ⟨hp, hn⟩) hv, State.record]
  · have hout : ¬ n < s.plLen := by
      rw [State.lt_plLen_iff, not_and_or, Nat.not_lt]
      exact h
    rw [exec_eq_after, after_rdpl, State.readPayload_of_not_lt hout, State.record]

end Sys2Proof.Machine
end

section
/-! SUPPORT. Conditions and notifications (60_exceptions.md): the overflow bit is sticky, and what has been notified in
each protocol state of a connection. -/

namespace Sys2Proof.Machine

/-! ### The overflow bit (R134) -/

/-- A feed sets the bit or leaves it (40_frame_accumulator.md R75). -/
theorem accFeed_keeps_fltOvf (b : List Byte) {s : State} (h : s.fltOvf = true) : (accFeed b s).fltOvf = true := by
  cases hfit : feedFits b s with
  | true => rwa [accFeed_fits hfit]
  | false => rw [accFeed_overflows hfit]

theorem collect_keeps_fltOvf {b : List Byte} {s : State} (hb : b ≠ []) (h : s.fltOvf = true) :
    (collect b s).fltOvf = true := by
  rcases collect_cases s hb with ⟨-, e⟩ | ⟨-, -, e⟩ | ⟨-, -, e⟩ <;> rw [e]
  · exact h
  · exact h

/-- No row of R100 clears the bit; only collecting can set it. -/
theorem chunkStep_keeps_fltOvf (b : List Byte) {s : State} (h : s.fltOvf = true) : (chunkStep b s).fltOvf = true := by
  rcases chunkStep_cases b s with ⟨-, e⟩ | ⟨-, -, -, -, e⟩ | ⟨-, -, -, -, e⟩ | ⟨-, hb, -, -, e⟩ |
    ⟨-, -, -, -, -, -, e⟩ | ⟨-, -, -, -, -, -, e⟩ | ⟨-, hb, -, -, -, -, e⟩ | ⟨-, -, -, -, e⟩ <;> rw [e]
  · exact h
  · rwa [acknowledge_eq]
  · exact h
  · exact collect_keeps_fltOvf hb h
  · exact h
  · exact h
  · exact collect_keeps_fltOvf hb h
  · exact h

theorem tickStep_fltOvf (x : TimeSample) (s : State) : (tickStep x s).fltOvf = s.fltOvf := by
  rcases tickStep_cases x s with ⟨-, e⟩ | ⟨-, -, -, e⟩ | ⟨-, -, -, e⟩ <;> simp [e]

/-- ACC.APPEND performed on its own overflows without its precondition (log 12). -/
theorem after_accAppend_keeps_fltOvf (b : List Byte) {s : State} (h : s.fltOvf = true) :
    (after (.accAppend b) s).fltOvf = true := by
  have e : after (.accAppend b) s = if s.accLen + b.length ≤ s.cfg.accCap then s.appendAcc b else s.overflow := rfl
  rw [e]
  split
  · exact h
  · rfl

/-- Every operation but CONNECT and HRESET keeps the bit, once it is set. -/
theorem after_keeps_fltOvf {i : Instr} {s : State} (hconnect : i ≠ .connect) (hreset : i ≠ .hreset)
    (h : s.fltOvf = true) : (after i s).fltOvf = true := by
  cases hb : i.chunkBytes with
  | some b =>
    rw [after_of_chunkBytes hb]
    exact chunkStep_keeps_fltOvf b h
  | none =>
    cases i with
    | chunk | rxAck | rxDataStart | rxDataCont | rxChksum | rxUnrec | rxEmpty | ack | data | cksum => cases hb
    | connect => exact absurd rfl hconnect
    | hreset => exact absurd rfl hreset
    | tick x => rwa [after_tick, tickStep_fltOvf]
    | accAppend b => exact after_accAppend_keeps_fltOvf b h
    | accFeed b => exact accFeed_keeps_fltOvf b h
    | disconnect | txTimesync | txDatareq | txChkreq | txResend | accReset | accIsterm | accPayload | accInterior
    | ckCompute | ckValidate | tmrStart | tmrStop | rdpl => exact h

/-- Settles O43: an operation after which the set bit is clear is none of those that keep it. -/
theorem overflowBitIsSticky : Obligations.OverflowBitIsSticky := by
  intro i s t hexec hset hclear
  rw [exec_eq_after] at hexec
  injection hexec with hafter
  subst hafter
  by_contra hno
  obtain ⟨hconnect, hreset⟩ := not_or.1 hno
  simp [after_keeps_fltOvf hconnect hreset hset] at hclear

/-! ### The notifications of one connection (R136) -/

/-- What may have been notified in a connection that has come to `pstate`: ACKED on leaving AwaitingAck, one payload on
entering Complete, which no chunk leaves. Re-entry moves between states of the same notifications. -/
def PState.Notified (ns : List Notification) : PState → Prop
  | .awaitingAck => ns = []
  | .collectingData | .awaitingChecksum | .resendRequested => ns = [.acked]
  | .complete => ∃ P, ns = [.acked, .payload P]

/-- Since `s` exactly the notifications of the present `pstate` were raised. -/
def NotifiedInOrder (s t : State) : Prop :=
  ∃ ns, t.evTrace = s.evTrace ++ ns ∧ t.pstate.Notified ns

/-- A part of a step that notifies nothing, and whose new `pstate` asks for nothing more. -/
theorem NotifiedInOrder.silent {s t u : State} (h : NotifiedInOrder s t) (htrace : u.evTrace = t.evTrace)
    (hp : ∀ ns, t.pstate.Notified ns → u.pstate.Notified ns) : NotifiedInOrder s u := by
  obtain ⟨ns, hns, hform⟩ := h
  exact ⟨ns, htrace.trans hns, hp ns hform⟩

/-- A part of a step that notifies `n`, which its new `pstate` asks for. -/
theorem NotifiedInOrder.notify {s t u : State} {n : Notification} (h : NotifiedInOrder s t)
    (htrace : u.evTrace = t.evTrace ++ [n]) (hp : ∀ ns, t.pstate.Notified ns → u.pstate.Notified (ns ++ [n])) :
    NotifiedInOrder s u := by
  obtain ⟨ns, hns, hform⟩ := h
  exact ⟨ns ++ [n], by rw [htrace, hns, List.append_assoc], hp ns hform⟩

theorem NotifiedInOrder.acknowledge {s t : State} (h : NotifiedInOrder s t) (hp : t.pstate = .awaitingAck) :
    NotifiedInOrder s (acknowledge t) :=
  h.notify (n := .acked) (by simp [acknowledge_eq, State.evTrace])
    (by simp [acknowledge_eq, hp, PState.Notified])

theorem NotifiedInOrder.validated {s t : State} (h : NotifiedInOrder s t) (hp : t.pstate = .awaitingChecksum) :
    NotifiedInOrder s (validated t) :=
  h.notify (n := .payload (interior t.acc)) (by simp [validated_eq, State.evTrace])
    (by simp [validated_eq, hp, PState.Notified])

theorem NotifiedInOrder.mismatched {s t : State} (h : NotifiedInOrder s t) (hp : t.pstate = .awaitingChecksum) :
    NotifiedInOrder s (mismatched t) :=
  h.silent (by simp [mismatched_eq, State.evTrace]) (by simp [mismatched_eq, hp, PState.Notified])

theorem NotifiedInOrder.collect {s t : State} {b : List Byte} (h : NotifiedInOrder s t) (hb : b ≠ [])
    (hp : t.pstate = .collectingData) : NotifiedInOrder s (collect b t) := by
  rcases collect_cases t hb with ⟨-, e⟩ | ⟨-, -, e⟩ | ⟨-, -, e⟩ <;> rw [e]
  · exact h
  · exact h
  · exact h.silent (by simp [State.evTrace]) (by simp [hp, PState.Notified])

/-- R112 with RESEND_REENTRY = 1: ResendRequested and CollectingData follow the same notifications. -/
theorem NotifiedInOrder.reentry {s t : State} (h : NotifiedInOrder s t) (hp : t.pstate = .resendRequested) :
    NotifiedInOrder s { t with pstate := .collectingData } :=
  h.silent rfl (by simp [hp, PState.Notified])

/-- A CHUNK step raises the notification of the state it enters, row by row of R100. -/
theorem NotifiedInOrder.chunkStep {s t : State} (b : List Byte) (hinv : t.ArchInv) (h : NotifiedInOrder s t) :
    NotifiedInOrder s (chunkStep b t) := by
  rcases chunkStep_cases b t with ⟨-, e⟩ | ⟨-, -, ha, -, e⟩ | ⟨-, -, -, -, e⟩ | ⟨-, hb, -, hp, e⟩ |
    ⟨-, -, -, hp, -, -, e⟩ | ⟨-, -, -, hp, -, -, e⟩ | ⟨-, hb, -, hp, -, -, e⟩ | ⟨-, -, -, -, e⟩ <;> rw [e]
  · exact h
  · exact h.acknowledge (hinv.pstate_of_not_ack ha)
  · exact h
  · exact h.collect hb hp
  · exact h.validated hp
  · exact h.mismatched hp
  · exact (h.reentry hp).collect hb rfl
  · exact h

/-- A tick notifies nothing (42_handshake_timer.md R87). -/
theorem NotifiedInOrder.tickStep {s t : State} (x : TimeSample) (h : NotifiedInOrder s t) :
    NotifiedInOrder s (tickStep x t) := by
  rcases tickStep_cases x t with ⟨-, e⟩ | ⟨-, -, -, e⟩ | ⟨-, -, -, e⟩ <;> rw [e]
  · exact h
  · exact h.silent (State.emitTx_evTrace _ _) fun _ => id
  · exact h

/-- What every operation of a connection keeps, for both values of RESEND_REENTRY. -/
def SessionNotified (s t : State) : Prop := t.ArchInv ∧ NotifiedInOrder s t

theorem connectStep_sessionNotified (s : State) : SessionNotified s (connectStep s) :=
  ⟨connectStep_archInv s, [], by simp [connectStep, State.evTrace], rfl⟩

theorem SessionNotified.after {s t : State} {i : Instr} (h : SessionNotified s t) (hi : i.inSession = true) :
    SessionNotified s (after i t) := by
  obtain ⟨hinv, hns⟩ := h
  rcases inSession_cases hi with ⟨b, hb⟩ | ⟨x, rfl⟩ | ⟨n, rfl⟩
  · rw [after_of_chunkBytes hb]
    exact ⟨chunkStep_archInv b hinv, hns.chunkStep b hinv⟩
  · exact ⟨tickStep_archInv x hinv, hns.tickStep x⟩
  · exact ⟨hinv, hns⟩

/-- Settles O44: the notifications follow `pstate` after CONNECT, every operation keeps that, and each `pstate` has one of
the three forms. -/
theorem notificationsAtMostOncePerConnection : Obligations.NotificationsAtMostOncePerConnection := by
  intro es s t hi hrun
  have hstart : runOps es (connectStep s) = .next t := hrun
  obtain ⟨-, ns, htrace, hform⟩ := runOps_induct hstart (connectStep_sessionNotified s)
    fun i him _ hu => hu.after (hi i him)
  refine ⟨ns, htrace, ?_⟩
  cases hp : t.pstate with rw [hp] at hform
  | awaitingAck => exact .inl hform
  | collectingData | awaitingChecksum | resendRequested => exact .inr (.inl hform)
  | complete => exact .inr (.inr hform)

end Sys2Proof.Machine
end

section
/-! SUPPORT. The round trip (70_reset_and_hazards.md R153, 95_test_vectors.md S1): a frame in any chunks and its checksum
frame, with ticks anywhere between. -/

namespace Sys2Proof.Machine

/-! ### Chunks with ticks between -/

/-- A property of the chunks to come and the state that every tick keeps and every chunk passes on holds at the end. -/
theorem afterAll_chunks_induct {P : List (List Byte) → State → Prop} {is : List Instr} {s : State}
    (hi : ∀ i ∈ is, i.chunkBytes.isSome = true ∨ ∃ x, i = .tick x)
    (htick : ∀ x cs u, P cs u → P cs (tickStep x u)) (hchunk : ∀ b cs u, P (b :: cs) u → P cs (chunkStep b u))
    (h : P (is.filterMap Instr.chunkBytes) s) : P [] (afterAll is s) := by
  induction is generalizing s with
  | nil => exact h
  | cons i is ih =>
    obtain ⟨hi0, his⟩ := List.forall_mem_cons.1 hi
    rw [afterAll_cons]
    refine ih his ?_
    rcases hi0 with hb | ⟨x, rfl⟩
    · obtain ⟨b, hb⟩ := Option.isSome_iff_exists.1 hb
      rw [List.filterMap_cons_some hb] at h
      rw [after_of_chunkBytes hb]
      exact hchunk b _ s h
    · exact htick x _ s h

/-! ### The engine on its way through the round trip -/

/-- After the ack the engine has come from `s` to `pstate = p` with `m` in the accumulator; it has emitted `es`, and has
neither overflowed nor reported a condition. -/
structure Reached (s : State) (p : PState) (m : Memory) (es : List Emission) (t : State) : Prop where
  conn : t.conn = true
  ack : t.ack = true
  pstate : t.pstate = p
  acc : t.acc = m
  cfg : t.cfg = s.cfg
  trace : t.trace = s.trace ++ es
  fltOvf : t.fltOvf = s.fltOvf
  conds : t.conds = s.conds

namespace Reached
variable {s t : State} {p : PState} {m : Memory} {es : List Emission} {b : List Byte}

theorem tick (x : TimeSample) (h : Reached s p m es t) : Reached s p m es (tickStep x t) := by
  rcases tickStep_cases x t with ⟨-, e⟩ | ⟨-, -, hna, -⟩ | ⟨-, -, -, e⟩
  · rwa [e]
  · simp [h.ack] at hna
  · rw [e]
    exact { h with }

/-- R104: a chunk that fits and does not end the frame. -/
theorem goes_on (h : Reached s .collectingData m es t) (hb : b ≠ []) (hfits : feedFits b t = true)
    (hend : b.getLast? ≠ some eofData) : Reached s .collectingData (fedAcc b t) es (chunkStep b t) := by
  rw [chunkStep_of_collecting h.conn hb h.ack h.pstate, collect_goes_on hb hfits hend]
  exact { h with acc := rfl }

/-- R105: a chunk that fits and ends the frame. -/
theorem terminates (h : Reached s .collectingData m [] t) (hb : b ≠ []) (hfits : feedFits b t = true)
    (hend : b.getLast? = some eofData) :
    Reached s .awaitingChecksum (fedAcc b t) [.tx chkReqFrame] (chunkStep b t) := by
  rw [chunkStep_of_collecting h.conn hb h.ack h.pstate, collect_terminates hb hfits hend]
  exact { h with pstate := rfl, acc := rfl, trace := by simp [h.trace] }

/-- R108: the checksum frame matches. -/
theorem delivers {c : Byte} (h : Reached s .awaitingChecksum m es t) (hc : ckCompute m = c) :
    Reached s .complete m (es ++ [.ev (.payload (interior m))]) (chunkStep [sofData, c, eofData] t) := by
  rw [chunkStep_of_checksum h.conn h.ack h.pstate (isCk_frame c), if_pos (by rw [h.acc, hc, ckByte_frame]), validated_eq]
  exact { h with pstate := rfl, trace := by simp [h.trace, h.acc] }

end Reached

/-! ### The frame still to come -/

/-- With `m` in the accumulator the chunks complete the frame: they are all of it, or what follows the part in `m`. -/
def Completes (f : Frame) (m : Memory) (bs : List (List Byte)) : Prop := bs.flatten = f ∨ m ≠ [] ∧ m ++ bs.flatten = f

/-- Only the first chunk of a frame begins with the start marker, so that feeding a chunk leaves the frame up to its end. -/
theorem Completes.fed {q b : List Byte} {bs : List (List Byte)} {s : State} (h : Completes (0x40 :: q) s.acc (b :: bs))
    (hq : (0x40 : Byte) ∉ q) (hb : b ≠ []) : fedAcc b s ≠ [] ∧ fedAcc b s ++ bs.flatten = 0x40 :: q := by
  rw [fedAcc_eq]
  rcases h with hall | ⟨hm, hrest⟩
  · obtain ⟨x, xs, rfl⟩ := List.exists_cons_of_ne_nil hb
    obtain ⟨rfl, hxs⟩ := List.cons.inj hall
    exact ⟨List.cons_ne_nil _ _, congrArg _ hxs⟩
  · obtain ⟨y, ys, hy⟩ := List.exists_cons_of_ne_nil hm
    rw [hy] at hrest
    obtain ⟨-, rfl⟩ := List.cons.inj hrest
    have hhead : b.head? ≠ some 0x40 := fun e =>
      hq (List.mem_append_right ys (List.mem_append_left _ (List.mem_of_head? e)))
    rw [if_neg hhead]
    exact ⟨by simp [hb], by simpa [hy] using hrest⟩

/-! ### The round trip -/

/-- The round trip of the payload `p` with the checksum `c`, begun in `s`: the chunks still to come, and the state. -/
inductive InTransit (p : List Byte) (c : Byte) (s : State) : List (List Byte) → State → Prop
  | collecting {m : Memory} {b : List Byte} {bs : List (List Byte)} {t : State} (hne : ∀ x ∈ b :: bs, x ≠ [])
      (hf : Completes (dataFrame p) m (b :: bs)) (h : Reached s .collectingData m [] t) :
      InTransit p c s (b :: (bs ++ [[sofData, c, eofData]])) t
  | awaiting {t : State} (h : Reached s .awaitingChecksum (dataFrame p) [.tx chkReqFrame] t) :
      InTransit p c s [[sofData, c, eofData]] t
  | delivered {t : State} (h : Reached s .complete (dataFrame p) [.tx chkReqFrame, .ev (.payload p)] t) :
      InTransit p c s [] t

namespace InTransit
variable {p : List Byte} {c : Byte} {s : State}

theorem tick {cs : List (List Byte)} {t : State} (x : TimeSample) (h : InTransit p c s cs t) :
    InTransit p c s cs (tickStep x t) := by
  cases h with
  | collecting hne hf h => exact .collecting hne hf (h.tick x)
  | awaiting h => exact .awaiting (h.tick x)
  | delivered h => exact .delivered (h.tick x)

/-- A chunk of the frame: the last one ends it, and before the last no end marker has come (R104, R105). -/
theorem chunk_of_frame {b : List Byte} {bs : List (List Byte)} {m : Memory} {t : State} (hsof : (0x40 : Byte) ∉ p)
    (heof : (0x4F : Byte) ∉ p) (hcap : p.length + 2 ≤ s.cfg.accCap) (hne : ∀ x ∈ b :: bs, x ≠ [])
    (hf : Completes (dataFrame p) m (b :: bs)) (h : Reached s .collectingData m [] t) :
    InTransit p c s (bs ++ [[sofData, c, eofData]]) (chunkStep b t) := by
  obtain ⟨hb, hbs⟩ := List.forall_mem_cons.1 hne
  have hq : (0x40 : Byte) ∉ p ++ [eofData] := by
    rw [List.mem_append]; exact not_or.2 ⟨hsof, by decide⟩
  rw [← h.acc] at hf
  obtain ⟨hfed, hframe⟩ : fedAcc b t ≠ [] ∧ fedAcc b t ++ bs.flatten = dataFrame p := hf.fed hq hb
  have hfits : feedFits b t = true := by
    have hlen := congrArg List.length hframe
    simp only [dataFrame, List.length_append, List.length_cons, List.length_nil] at hlen
    rw [feedFits_iff, h.cfg]
    omega
  cases bs with
  | nil =>
    rw [List.flatten_nil, List.append_nil] at hframe
    have hend : b.getLast? = some eofData := by rw [← fedAcc_getLast hb, hframe, dataFrame, List.getLast?_concat]
    exact .awaiting (hframe ▸ h.terminates hb hfits hend)
  | cons b' bs =>
    have hpre : fedAcc b t <+: sofData :: p := by
      simpa using flatten_prefix_of_proper (xs := [fedAcc b t]) hframe (List.cons_ne_nil b' bs) hbs
    have hend : b.getLast? ≠ some eofData := by
      rw [← fedAcc_getLast hb]
      intro e
      exact (List.mem_cons.1 (hpre.subset (List.mem_of_getLast? e))).elim (by decide) heof
    exact .collecting hbs (.inr ⟨hfed, hframe⟩) (h.goes_on hb hfits hend)

theorem chunk {b : List Byte} {cs : List (List Byte)} {t : State} (hsof : (0x40 : Byte) ∉ p) (heof : (0x4F : Byte) ∉ p)
    (hcap : p.length + 2 ≤ s.cfg.accCap) (hc : ckCompute (dataFrame p) = c) (h : InTransit p c s (b :: cs) t) :
    InTransit p c s cs (chunkStep b t) := by
  cases h with
  | collecting hne hf h => exact chunk_of_frame hsof heof hcap hne hf h
  | awaiting h => exact .delivered (by simpa using h.delivers hc)

end InTransit

/-- Settles O47: the chunks carry the payload from collecting through the checksum to its delivery, and no tick
interferes. -/
theorem roundTripDeliversThePayload : Obligations.RoundTripDeliversThePayload := by
  intro p bs c es s hwf hconn hack hp hsof heof hlen hne hflat hsum hi hchunks
  have hcap : p.length + 2 ≤ s.cfg.accCap := by
    obtain ⟨hcap, -⟩ := hwf
    omega
  have hc : ckCompute (dataFrame p) = c :=
    BitVec.eq_of_toNat_eq (by rw [ckCompute_toNat, interior_dataFrame, hsum])
  have hstart : InTransit p c s (es.filterMap Instr.chunkBytes) s := by
    rw [hchunks]
    cases bs with
    | nil => cases hflat
    | cons b bs => exact .collecting hne (.inl hflat) ⟨hconn, hack, hp, rfl, rfl, by simp, rfl, rfl⟩
  cases afterAll_chunks_induct hi (fun x _ _ => .tick x) (fun _ _ _ => .chunk hsof heof hcap hc) hstart with
  | delivered h => exact ⟨_, runOps_eq_afterAll es s, h.pstate, h.acc, h.trace, h.fltOvf, h.conds⟩

end Sys2Proof.Machine
end

section
/-! SUPPORT. What is decoded is a descriptor: of each operand form, the one byte string that it reads an operation from,
then of each code, and so of the whole string. -/

namespace Sys2Proof

/-! ### Fields of more than one byte -/

@[simp] theorem yearHigh_append (yh yl mo d h mi s : Byte) : yearHigh ⟨yh ++ yl, mo, d, h, mi, s⟩ = yh := by
  exact BitVec.extractLsb'_append_eq_left

@[simp] theorem yearLow_append (yh yl mo d h mi s : Byte) : yearLow ⟨yh ++ yl, mo, d, h, mi, s⟩ = yl := by
  exact BitVec.extractLsb'_append_eq_right

/-! ### The operand forms -/

section
variable {i : Instr} {rest : List Byte}

theorem decodeNone_ok {j : Instr} (h : decodeNone j rest = .ok i) : i = j ∧ rest = [] := by
  cases rest with
  | nil =>
    injection h with h
    exact ⟨h.symm, rfl⟩
  | cons x xs => cases h

theorem decodeBytes_ok {mk : List Byte → Instr} (h : decodeBytes mk rest = .ok i) :
    ∃ bs, i = mk bs ∧ rest = encodeSeq bs := by
  unfold decodeBytes at h
  split at h
  next bs hbs =>
    injection h with h
    exact ⟨bs, h.symm, (encodeSeq_of_decodeSeq hbs).symm⟩
  next => cases h

theorem decodeBytesOne_ok {mk : List Byte → Instr} (h : decodeBytesOne mk rest = .ok i) :
    ∃ b bs, i = mk (b :: bs) ∧ rest = encodeSeq (b :: bs) := by
  unfold decodeBytesOne at h
  split at h
  next => cases h
  next b bs hbs =>
    injection h with h
    exact ⟨b, bs, h.symm, (encodeSeq_of_decodeSeq hbs).symm⟩
  next => cases h

theorem decodeByte_ok {mk : Byte → Instr} (h : decodeByte mk rest = .ok i) : ∃ c, i = mk c ∧ rest = [c] := by
  unfold decodeByte at h
  split at h
  next => cases h
  next c =>
    injection h with h
    exact ⟨c, h.symm, rfl⟩
  next => cases h

theorem decodeByteBytes_ok {mk : Byte → List Byte → Instr} (h : decodeByteBytes mk rest = .ok i) :
    ∃ c bs, i = mk c bs ∧ rest = c :: encodeSeq bs := by
  cases rest with
  | nil => cases h
  | cons c rest =>
    obtain ⟨bs, hi, hrest⟩ := decodeBytes_ok h
    exact ⟨c, bs, hi, congrArg (c :: ·) hrest⟩

theorem decodeIndex_ok (h : decodeIndex rest = .ok i) : ∃ n, i = .rdpl n ∧ rest = encodeCount n := by
  unfold decodeIndex at h
  split at h
  next n hn =>
    injection h with h
    exact ⟨n, h.symm, (encodeCount_of_decodeCount hn).symm⟩
  next => cases h

theorem decodeTick_ok (h : decodeTick rest = .ok i) : ∃ t, i = .tick t ∧ rest = (Instr.tick t).operandBytes := by
  unfold decodeTick at h
  split at h
  next =>
    injection h with h
    exact ⟨_, h.symm, by simp [Instr.operandBytes]⟩
  next => split at h <;> cases h

theorem decodeTimesync_ok (h : decodeTimesync rest = .ok i) :
    ∃ t, i = .txTimesync t ∧ rest = (Instr.txTimesync t).operandBytes := by
  unfold decodeTimesync at h
  split at h
  next =>
    split at h
    next hfixed =>
      obtain ⟨rfl, rfl, rfl, rfl⟩ := hfixed
      injection h with h
      exact ⟨_, h.symm, by simp [Instr.operandBytes, timesyncFrame]⟩
    next => cases h
  next => split at h <;> cases h

theorem decodeF3Fixed_ok {code : Byte} {j : Instr} (h : decodeF3Fixed code j rest = .ok i) :
    i = j ∧ rest = [sofData, code, eofData] := by
  unfold decodeF3Fixed at h
  split at h
  next =>
    split at h
    next hfixed =>
      obtain ⟨rfl, rfl, rfl⟩ := hfixed
      injection h with h
      exact ⟨h.symm, rfl⟩
    next => cases h
  next => split at h <;> cases h

theorem decodeChksum_ok (h : decodeChksum rest = .ok i) : ∃ c, i = .rxChksum c ∧ rest = [sofData, c, eofData] := by
  unfold decodeChksum at h
  split at h
  next s c e =>
    split at h
    next hfixed =>
      obtain ⟨rfl, rfl⟩ := hfixed
      injection h with h
      exact ⟨c, h.symm, rfl⟩
    next => cases h
  next => split at h <;> cases h

theorem decodeAck_ok (h : decodeAck rest = .ok i) :
    ∃ body, i = .rxAck body ∧ rest = sofCmd :: ackCode :: encodeSeq body := by
  unfold decodeAck at h
  split at h
  next =>
    split at h
    next hfixed =>
      obtain ⟨rfl, rfl⟩ := hfixed
      obtain ⟨body, hi, rfl⟩ := decodeBytes_ok h
      exact ⟨body, hi, rfl⟩
    next => cases h
  next => cases h

theorem decodeDataStart_ok (h : decodeDataStart rest = .ok i) :
    ∃ bs, i = .rxDataStart bs ∧ rest = sofData :: encodeSeq bs := by
  unfold decodeDataStart at h
  split at h
  next =>
    split at h
    next hs =>
      subst hs
      obtain ⟨bs, hi, rfl⟩ := decodeBytes_ok h
      exact ⟨bs, hi, rfl⟩
    next => cases h
  next => cases h

theorem decodeDataCont_ok (h : decodeDataCont rest = .ok i) :
    ∃ first bs, first ≠ sofData ∧ i = .rxDataCont first bs ∧ rest = first :: encodeSeq bs := by
  unfold decodeDataCont at h
  split at h
  next first rest =>
    split at h
    next => cases h
    next hfirst =>
      obtain ⟨bs, hi, rfl⟩ := decodeBytes_ok h
      exact ⟨first, bs, hfirst, hi, rfl⟩
  next => cases h

/-! ### The codes -/

/-- Each operation is read from its own code and its own operand bytes. Case `h_k` is the row of code `k - 1`; the codes
of one operand form go together. -/
theorem decodeRow_ok {code : Byte} (h : decodeRow code rest = .ok i) :
    i.operandsOk = true ∧ code.toNat = i.code.toNat ∧ rest = i.operandBytes := by
  unfold decodeRow at h
  generalize code.toNat = n at h ⊢
  split at h
  case h_1 | h_2 | h_3 | h_15 | h_16 | h_18 | h_19 | h_20 | h_24 | h_25 | h_27 =>
    obtain ⟨rfl, rfl⟩ := decodeNone_ok h
    exact ⟨rfl, rfl, rfl⟩
  case h_5 | h_17 | h_22 | h_28 =>
    obtain ⟨bs, rfl, rfl⟩ := decodeBytes_ok h
    exact ⟨rfl, rfl, rfl⟩
  case h_14 | h_21 =>
    obtain ⟨b, bs, rfl, rfl⟩ := decodeBytesOne_ok h
    exact ⟨rfl, rfl, rfl⟩
  case h_7 | h_8 | h_9 =>
    obtain ⟨rfl, rfl⟩ := decodeF3Fixed_ok h
    exact ⟨rfl, rfl, rfl⟩
  case h_4 =>
    obtain ⟨t, rfl, rfl⟩ := decodeTick_ok h
    exact ⟨rfl, rfl, rfl⟩
  case h_6 =>
    obtain ⟨t, rfl, rfl⟩ := decodeTimesync_ok h
    exact ⟨rfl, rfl, rfl⟩
  case h_10 =>
    obtain ⟨body, rfl, rfl⟩ := decodeAck_ok h
    exact ⟨rfl, rfl, rfl⟩
  case h_11 =>
    obtain ⟨bs, rfl, rfl⟩ := decodeDataStart_ok h
    exact ⟨rfl, rfl, rfl⟩
  case h_12 =>
    obtain ⟨first, bs, hfirst, rfl, rfl⟩ := decodeDataCont_ok h
    exact ⟨bne_iff_ne.2 hfirst, rfl, rfl⟩
  case h_13 =>
    obtain ⟨c, rfl, rfl⟩ := decodeChksum_ok h
    exact ⟨rfl, rfl, rfl⟩
  case h_23 =>
    obtain ⟨c, f, rfl, rfl⟩ := decodeByteBytes_ok h
    exact ⟨rfl, rfl, rfl⟩
  case h_26 =>
    obtain ⟨n, rfl, rfl⟩ := decodeIndex_ok h
    exact ⟨rfl, rfl, rfl⟩
  case h_29 =>
    obtain ⟨c, rfl, rfl⟩ := decodeByte_ok h
    exact ⟨rfl, rfl, rfl⟩
  case h_30 => cases h

end

/-- Settles O2: the first byte is the operation's code, the others its operand bytes. -/
theorem everyDescriptorHasOneMeaning : Obligations.EveryDescriptorHasOneMeaning := by
  intro d i h
  cases d with
  | nil => cases h
  | cons code rest =>
    obtain ⟨hok, hcode, rfl⟩ := decodeRow_ok h
    exact ⟨hok, congrArg (· :: _) (BitVec.eq_of_toNat_eq hcode).symm⟩

end Sys2Proof
end

section
/-! SUPPORT. The step by its next input. -/

namespace Sys2Proof.Machine

theorem State.takeInput_of_cons {s : State} {x : Input} {rest : List Input} (h : s.inbox = x :: rest) :
    s.takeInput = { s with inbox := rest } := by
  rw [State.takeInput, h, List.tail_cons]

theorem step_of_nil {s : State} (h : s.inbox = []) : step s = .next s := by
  rw [step, h]

theorem step_of_cycle {s : State} {p : PortIn} {rest : List Input} (h : s.inbox = .cycle p :: rest) :
    step s = .next (portCycle p s.takeInput) := by
  rw [step, h]

theorem step_of_malformed {s : State} {d : List Byte} {rest : List Input} {e : DecodeError}
    (h : s.inbox = .op d :: rest) (hd : decode d = .error e) : step s = .refused (.malformed e) := by
  simp only [step, h, hd]

/-- Settles O7, input by input. -/
theorem stepWaitsCyclesOrRefuses : Obligations.StepWaitsCyclesOrRefuses :=
  fun _ => ⟨step_of_nil, fun _ _ h => State.takeInput_of_cons h ▸ step_of_cycle h, fun _ _ _ => step_of_malformed⟩

end Sys2Proof.Machine
end
